-- ==== Sys2Proof/Word.lean ====
section
/-! DEFINITION. The two word types of the 6809: bytes and 16-bit words (00_scope.md R5, R8). -/

namespace Sys2Proof

/-- An 8-bit value: one memory cell, an accumulator, DP, CC (00_scope.md R5). -/
abbrev Byte := BitVec 8

/-- A 16-bit value: an address, an index or stack register, PC, D (00_scope.md R5). -/
abbrev Word := BitVec 16

end Sys2Proof
end

