-- ==== Sys2Proof/Machine/Bits.lean ====
section
/-! DEFINITION. Halves, joins and extensions of bytes and words (00_scope.md R7, R8). -/

namespace Sys2Proof.Machine

/-- `h ++ l`: the 16-bit value whose high byte is `h` (00_scope.md R7, 20_memory.md R58). -/
def joinBytes (h l : Byte) : Word := h ++ l

/-- Bits 15 to 8, the high byte ("poids fort", 00_scope.md R7). -/
def highByte (w : Word) : Byte := w.extractLsb' 8 8

/-- Bits 7 to 0, the low byte ("poids faible", 00_scope.md R7). -/
def lowByte (w : Word) : Byte := w.extractLsb' 0 8

/-- `sext_16` of an 8-bit value (00_scope.md R8). -/
def sext8 (v : Byte) : Word := v.signExtend 16

/-- `sext_16` of a 5-bit value, the offset of the short indexed form (00_scope.md R8, 30_encoding.md R90). -/
def sext5 (v : BitVec 5) : Word := v.signExtend 16

/-- `zext_16` of an 8-bit value (00_scope.md R8). -/
def zext8 (v : Byte) : Word := v.zeroExtend 16

end Sys2Proof.Machine
end

