-- ==== Sys2Proof/Syntax.lean ====
section
/-! DEFINITION. The instructions of the 6809 as terms: one constructor per mnemonic of spec/opcode_table.json, the
addressing format of a row being the constructor's operand (30_encoding.md R73, R105 to R107). Terms hold decoded
fields, never raw opcodes. -/

namespace Sys2Proof

/-- The base register of an indexed form, the field `RR` (30_encoding.md R89). -/
inductive IndexReg where
  | x | y | u | s
  deriving DecidableEq, Repr

/-- The legal indexed forms (30_encoding.md R90 to R101, R103). `ind` is the indirect bit `i`; the forms without it
are never indirect (R90, R96, R97) and `extInd` always is (R101), so the illegal postbytes of R102 have no term. -/
inductive Indexed where
  /-- `n,R` with a 5-bit offset (R90). -/
  | off5 (r : IndexReg) (n : BitVec 5)
  /-- `,R` and `[,R]` (R91). -/
  | off0 (r : IndexReg) (ind : Bool)
  /-- `n,R` with an 8-bit offset (R92). -/
  | off8 (r : IndexReg) (n : Byte) (ind : Bool)
  /-- `n,R` with a 16-bit offset (R93). -/
  | off16 (r : IndexReg) (n : Word) (ind : Bool)
  /-- `A,R` (R94). -/
  | accA (r : IndexReg) (ind : Bool)
  /-- `B,R` (R94). -/
  | accB (r : IndexReg) (ind : Bool)
  /-- `D,R` (R95). -/
  | accD (r : IndexReg) (ind : Bool)
  /-- `,R+` (R96). -/
  | inc1 (r : IndexReg)
  /-- `,R++` and `[,R++]` (R96). -/
  | inc2 (r : IndexReg) (ind : Bool)
  /-- `,-R` (R97). -/
  | dec1 (r : IndexReg)
  /-- `,--R` and `[,--R]` (R97). -/
  | dec2 (r : IndexReg) (ind : Bool)
  /-- `n,PCR` with an 8-bit offset (R98); the processor ignores `RR` here (R89), so the term has none. -/
  | pcr8 (n : Byte) (ind : Bool)
  /-- `n,PCR` with a 16-bit offset (R99); as `pcr8`. -/
  | pcr16 (n : Word) (ind : Bool)
  /-- `[addr]`, extended indirect (R101). -/
  | extInd (addr : Word)
  deriving DecidableEq, Repr

/-- An operand in memory: direct, extended or indexed (30_encoding.md R77, R78, R88). -/
inductive MemOperand where
  | dir (off : Byte)
  | ext (addr : Word)
  | idx (ix : Indexed)
  deriving DecidableEq, Repr

/-- The operand of an 8-bit instruction that has an immediate form (30_encoding.md R82, `Operand8`). -/
inductive Operand8 where
  | imm (v : Byte)
  | mem (m : MemOperand)
  deriving DecidableEq, Repr

/-- The operand of a 16-bit instruction that has an immediate form (30_encoding.md R82, `Operand16`). -/
inductive Operand16 where
  | imm (v : Word)
  | mem (m : MemOperand)
  deriving DecidableEq, Repr

/-- The 16-bit registers of the register postbyte, codes 0 to 5 (30_encoding.md R84). -/
inductive Reg16 where
  | d | x | y | u | s | pc
  deriving DecidableEq, Repr

/-- The 8-bit registers of the register postbyte, codes 8 to 11 (30_encoding.md R84). -/
inductive Reg8 where
  | a | b | cc | dp
  deriving DecidableEq, Repr

/-- A register of TFR or EXG, with its size (30_encoding.md R84). -/
inductive Reg where
  | r16 (r : Reg16)
  | r8 (r : Reg8)
  deriving DecidableEq, Repr

/-- The instructions, one constructor per mnemonic of spec/opcode_table.json, in the order of the spec's files.
The byte `pb` of the stack transfers is the postbyte, one bit per register (30_encoding.md R85). -/
inductive Instr where
  -- Transfer (40_data_transfer.md)
  /-- EXG: $1E REGPB (R121). -/
  | exg (r1 r2 : Reg)
  /-- TFR: $1F REGPB (R122). -/
  | tfr (r1 r2 : Reg)
  /-- LDA: $86 IMM8 $96 DIR $A6 IDX $B6 EXT (R124). -/
  | lda (op : Operand8)
  /-- LDB: $C6 IMM8 $D6 DIR $E6 IDX $F6 EXT (R125). -/
  | ldb (op : Operand8)
  /-- LDD: $CC IMM16 $DC DIR $EC IDX $FC EXT (R126). -/
  | ldd (op : Operand16)
  /-- LDX: $8E IMM16 $9E DIR $AE IDX $BE EXT (R127). -/
  | ldx (op : Operand16)
  /-- LDY: $108E IMM16 $109E DIR $10AE IDX $10BE EXT (R128). -/
  | ldy (op : Operand16)
  /-- LDU: $CE IMM16 $DE DIR $EE IDX $FE EXT (R129). -/
  | ldu (op : Operand16)
  /-- LDS: $10CE IMM16 $10DE DIR $10EE IDX $10FE EXT (R130). -/
  | lds (op : Operand16)
  /-- STA: $97 DIR $A7 IDX $B7 EXT (R132). -/
  | sta (m : MemOperand)
  /-- STB: $D7 DIR $E7 IDX $F7 EXT (R133). -/
  | stb (m : MemOperand)
  /-- STD: $DD DIR $ED IDX $FD EXT (R134). -/
  | std (m : MemOperand)
  /-- STX: $9F DIR $AF IDX $BF EXT (R135). -/
  | stx (m : MemOperand)
  /-- STY: $109F DIR $10AF IDX $10BF EXT (R136). -/
  | sty (m : MemOperand)
  /-- STU: $DF DIR $EF IDX $FF EXT (R137). -/
  | stu (m : MemOperand)
  /-- STS: $10DF DIR $10EF IDX $10FF EXT (R138). -/
  | sts (m : MemOperand)
  -- Stack (41_stack_push_pull.md)
  /-- PSHS: $34 STKPB (R143). -/
  | pshs (pb : Byte)
  /-- PSHU: $36 STKPB (R144). -/
  | pshu (pb : Byte)
  /-- PULS: $35 STKPB (R145). -/
  | puls (pb : Byte)
  /-- PULU: $37 STKPB (R146). -/
  | pulu (pb : Byte)
  -- Arithmetic (42_arithmetic.md)
  /-- ADDA: $8B IMM8 $9B DIR $AB IDX $BB EXT (R151). -/
  | adda (op : Operand8)
  /-- ADDB: $CB IMM8 $DB DIR $EB IDX $FB EXT (R152). -/
  | addb (op : Operand8)
  /-- ADDD: $C3 IMM16 $D3 DIR $E3 IDX $F3 EXT (R153). -/
  | addd (op : Operand16)
  /-- ADCA: $89 IMM8 $99 DIR $A9 IDX $B9 EXT (R154). -/
  | adca (op : Operand8)
  /-- ADCB: $C9 IMM8 $D9 DIR $E9 IDX $F9 EXT (R155). -/
  | adcb (op : Operand8)
  /-- ABX: $3A INH (R156). -/
  | abx
  /-- DAA: $19 INH (R157). -/
  | daa
  /-- MUL: $3D INH (R158). -/
  | mul
  /-- SUBA: $80 IMM8 $90 DIR $A0 IDX $B0 EXT (R159). -/
  | suba (op : Operand8)
  /-- SUBB: $C0 IMM8 $D0 DIR $E0 IDX $F0 EXT (R160). -/
  | subb (op : Operand8)
  /-- SUBD: $83 IMM16 $93 DIR $A3 IDX $B3 EXT (R161). -/
  | subd (op : Operand16)
  /-- SBCA: $82 IMM8 $92 DIR $A2 IDX $B2 EXT (R162). -/
  | sbca (op : Operand8)
  /-- SBCB: $C2 IMM8 $D2 DIR $E2 IDX $F2 EXT (R163). -/
  | sbcb (op : Operand8)
  /-- SEX: $1D INH (R164). -/
  | sex
  -- Logic (43_logic.md)
  /-- ANDA: $84 IMM8 $94 DIR $A4 IDX $B4 EXT (R171). -/
  | anda (op : Operand8)
  /-- ANDB: $C4 IMM8 $D4 DIR $E4 IDX $F4 EXT (R172). -/
  | andb (op : Operand8)
  /-- EORA: $88 IMM8 $98 DIR $A8 IDX $B8 EXT (R173). -/
  | eora (op : Operand8)
  /-- EORB: $C8 IMM8 $D8 DIR $E8 IDX $F8 EXT (R174). -/
  | eorb (op : Operand8)
  /-- ORA: $8A IMM8 $9A DIR $AA IDX $BA EXT (R175). -/
  | ora (op : Operand8)
  /-- ORB: $CA IMM8 $DA DIR $EA IDX $FA EXT (R176). -/
  | orb (op : Operand8)
  /-- ANDCC: $1C IMM8 (R177). -/
  | andcc (imm8 : Byte)
  /-- ORCC: $1A IMM8 (R178). -/
  | orcc (imm8 : Byte)
  -- Shift and rotate (44_shift_rotate.md)
  /-- ASRA: $47 INH (R183). -/
  | asra
  /-- ASRB: $57 INH (R184). -/
  | asrb
  /-- ASR: $07 DIR $67 IDX $77 EXT (R185). -/
  | asr (m : MemOperand)
  /-- ASLA: $48 INH (R186). -/
  | asla
  /-- ASLB: $58 INH (R187). -/
  | aslb
  /-- ASL: $08 DIR $68 IDX $78 EXT (R188). -/
  | asl (m : MemOperand)
  /-- LSRA: $44 INH (R189). -/
  | lsra
  /-- LSRB: $54 INH (R190). -/
  | lsrb
  /-- LSR: $04 DIR $64 IDX $74 EXT (R191). -/
  | lsr (m : MemOperand)
  /-- ROLA: $49 INH (R192). -/
  | rola
  /-- ROLB: $59 INH (R193). -/
  | rolb
  /-- ROL: $09 DIR $69 IDX $79 EXT (R194). -/
  | rol (m : MemOperand)
  /-- RORA: $46 INH (R195). -/
  | rora
  /-- RORB: $56 INH (R196). -/
  | rorb
  /-- ROR: $06 DIR $66 IDX $76 EXT (R197). -/
  | ror (m : MemOperand)
  -- Clear, decrement, increment, complement, negate, NOP (45_inc_dec_clr_com_neg_nop.md)
  /-- CLRA: $4F INH (R201). -/
  | clra
  /-- CLRB: $5F INH (R202). -/
  | clrb
  /-- CLR: $0F DIR $6F IDX $7F EXT (R203). -/
  | clr (m : MemOperand)
  /-- DECA: $4A INH (R204). -/
  | deca
  /-- DECB: $5A INH (R205). -/
  | decb
  /-- DEC: $0A DIR $6A IDX $7A EXT (R206). -/
  | dec (m : MemOperand)
  /-- INCA: $4C INH (R207). -/
  | inca
  /-- INCB: $5C INH (R208). -/
  | incb
  /-- INC: $0C DIR $6C IDX $7C EXT (R209). -/
  | inc (m : MemOperand)
  /-- COMA: $43 INH (R210). -/
  | coma
  /-- COMB: $53 INH (R211). -/
  | comb
  /-- COM: $03 DIR $63 IDX $73 EXT (R212). -/
  | com (m : MemOperand)
  /-- NEGA: $40 INH (R213). -/
  | nega
  /-- NEGB: $50 INH (R214). -/
  | negb
  /-- NEG: $00 DIR $60 IDX $70 EXT (R215). -/
  | neg (m : MemOperand)
  /-- NOP: $12 INH (R216). -/
  | nop
  -- Test and compare (46_test_compare.md)
  /-- BITA: $85 IMM8 $95 DIR $A5 IDX $B5 EXT (R221). -/
  | bita (op : Operand8)
  /-- BITB: $C5 IMM8 $D5 DIR $E5 IDX $F5 EXT (R222). -/
  | bitb (op : Operand8)
  /-- CMPA: $81 IMM8 $91 DIR $A1 IDX $B1 EXT (R223). -/
  | cmpa (op : Operand8)
  /-- CMPB: $C1 IMM8 $D1 DIR $E1 IDX $F1 EXT (R224). -/
  | cmpb (op : Operand8)
  /-- CMPD: $1083 IMM16 $1093 DIR $10A3 IDX $10B3 EXT (R225). -/
  | cmpd (op : Operand16)
  /-- CMPX: $8C IMM16 $9C DIR $AC IDX $BC EXT (R226). -/
  | cmpx (op : Operand16)
  /-- CMPY: $108C IMM16 $109C DIR $10AC IDX $10BC EXT (R227). -/
  | cmpy (op : Operand16)
  /-- CMPU: $1183 IMM16 $1193 DIR $11A3 IDX $11B3 EXT (R228). -/
  | cmpu (op : Operand16)
  /-- CMPS: $118C IMM16 $119C DIR $11AC IDX $11BC EXT (R229). -/
  | cmps (op : Operand16)
  /-- TSTA: $4D INH (R230). -/
  | tsta
  /-- TSTB: $5D INH (R231). -/
  | tstb
  /-- TST: $0D DIR $6D IDX $7D EXT (R232). -/
  | tst (m : MemOperand)
  -- Branches (47_branches.md)
  /-- BRA: $20 REL8 (R244). -/
  | bra (rel8 : Byte)
  /-- BRN: $21 REL8 (R245). -/
  | brn (rel8 : Byte)
  /-- BHI: $22 REL8 (R246). -/
  | bhi (rel8 : Byte)
  /-- BLS: $23 REL8 (R247). -/
  | bls (rel8 : Byte)
  /-- BCC: $24 REL8 (R248). -/
  | bcc (rel8 : Byte)
  /-- BCS: $25 REL8 (R249). -/
  | bcs (rel8 : Byte)
  /-- BNE: $26 REL8 (R250). -/
  | bne (rel8 : Byte)
  /-- BEQ: $27 REL8 (R251). -/
  | beq (rel8 : Byte)
  /-- BVC: $28 REL8 (R252). -/
  | bvc (rel8 : Byte)
  /-- BVS: $29 REL8 (R253). -/
  | bvs (rel8 : Byte)
  /-- BPL: $2A REL8 (R254). -/
  | bpl (rel8 : Byte)
  /-- BMI: $2B REL8 (R255). -/
  | bmi (rel8 : Byte)
  /-- BGE: $2C REL8 (R256). -/
  | bge (rel8 : Byte)
  /-- BLT: $2D REL8 (R257). -/
  | blt (rel8 : Byte)
  /-- BGT: $2E REL8 (R258). -/
  | bgt (rel8 : Byte)
  /-- BLE: $2F REL8 (R259). -/
  | ble (rel8 : Byte)
  /-- LBRA: $16 REL16 (R260). -/
  | lbra (rel16 : Word)
  /-- LBRN: $1021 REL16 (R261). -/
  | lbrn (rel16 : Word)
  /-- LBHI: $1022 REL16 (R262). -/
  | lbhi (rel16 : Word)
  /-- LBLS: $1023 REL16 (R263). -/
  | lbls (rel16 : Word)
  /-- LBCC: $1024 REL16 (R264). -/
  | lbcc (rel16 : Word)
  /-- LBCS: $1025 REL16 (R265). -/
  | lbcs (rel16 : Word)
  /-- LBNE: $1026 REL16 (R266). -/
  | lbne (rel16 : Word)
  /-- LBEQ: $1027 REL16 (R267). -/
  | lbeq (rel16 : Word)
  /-- LBVC: $1028 REL16 (R268). -/
  | lbvc (rel16 : Word)
  /-- LBVS: $1029 REL16 (R269). -/
  | lbvs (rel16 : Word)
  /-- LBPL: $102A REL16 (R270). -/
  | lbpl (rel16 : Word)
  /-- LBMI: $102B REL16 (R271). -/
  | lbmi (rel16 : Word)
  /-- LBGE: $102C REL16 (R272). -/
  | lbge (rel16 : Word)
  /-- LBLT: $102D REL16 (R273). -/
  | lblt (rel16 : Word)
  /-- LBGT: $102E REL16 (R274). -/
  | lbgt (rel16 : Word)
  /-- LBLE: $102F REL16 (R275). -/
  | lble (rel16 : Word)
  -- Jumps, subroutines, LEA (48_jumps_subroutines_lea.md)
  /-- JMP: $0E DIR $6E IDX $7E EXT (R281). -/
  | jmp (m : MemOperand)
  /-- JSR: $9D DIR $AD IDX $BD EXT (R282). -/
  | jsr (m : MemOperand)
  /-- BSR: $8D REL8 (R283). -/
  | bsr (rel8 : Byte)
  /-- LBSR: $17 REL16 (R284). -/
  | lbsr (rel16 : Word)
  /-- RTS: $39 INH (R285). -/
  | rts
  /-- LEAX: $30 IDX (R288). -/
  | leax (ix : Indexed)
  /-- LEAY: $31 IDX (R289). -/
  | leay (ix : Indexed)
  /-- LEAS: $32 IDX (R290). -/
  | leas (ix : Indexed)
  /-- LEAU: $33 IDX (R291). -/
  | leau (ix : Indexed)
  -- Interrupt instructions (49_interrupt_instructions.md)
  /-- CWAI: $3C IMM8 (R301). -/
  | cwai (imm8 : Byte)
  /-- SYNC: $13 INH (R302). -/
  | sync
  /-- RTI: $3B INH (R303). -/
  | rti
  /-- SWI: $3F INH (R304). -/
  | swi
  /-- SWI2: $103F INH (R305). -/
  | swi2
  /-- SWI3: $113F INH (R306). -/
  | swi3
  deriving DecidableEq, Repr

end Sys2Proof
end

