-- ==== Sys2Proof/Decode.lean ====
section
/-! DEFINITION. The decoder: bytes to instruction, total on every list of bytes, refusing by name; and the encoder,
written from the same tables (30_encoding.md). -/

namespace Sys2Proof

open Machine

/-- Why a list of bytes is no instruction. -/
inductive DecodeError where
  /-- The first byte, or the byte after $10 or $11, is in none of the opcode tables (30_encoding.md R108, R109). -/
  | illegalOpcode
  /-- One of the 39 postbytes that no indexed form has (30_encoding.md R102). -/
  | illegalIndexedPostbyte
  /-- An unassigned register code, or two registers of different sizes (30_encoding.md R84). -/
  | illegalRegisterPostbyte
  /-- The list ends before the instruction does. The machine's fetch reads every byte an instruction has, so no step
  meets this. -/
  | truncated
  deriving DecidableEq, Repr

/-- A decoded instruction with the bytes that follow it, or why there is none. -/
abbrev Decoded := Except DecodeError (Instr × List Byte)

/-- The ten formats of 30_encoding.md R73, each with the instruction its operand completes. -/
inductive Shape where
  | inh (i : Instr)
  | imm8 (k : Byte → Instr)
  | imm16 (k : Word → Instr)
  | dir (k : Byte → Instr)
  | ext (k : Word → Instr)
  | idx (k : Indexed → Instr)
  | rel8 (k : Byte → Instr)
  | rel16 (k : Word → Instr)
  | regpb (k : Reg → Reg → Instr)
  | stkpb (k : Byte → Instr)

/-! ## The opcode tables (30_encoding.md R105 to R107) -/

/-- The direct form of an instruction with a memory operand (30_encoding.md R77). -/
def dirShape (k : MemOperand → Instr) : Shape := .dir fun off => k (.dir off)

/-- The extended form of an instruction with a memory operand (30_encoding.md R78). -/
def extShape (k : MemOperand → Instr) : Shape := .ext fun addr => k (.ext addr)

/-- The indexed form of an instruction with a memory operand (30_encoding.md R88). -/
def idxShape (k : MemOperand → Instr) : Shape := .idx fun ix => k (.idx ix)

/-- The single-operand instructions on memory, groups $0x, $6x, $7x, by the low nibble (30_encoding.md R105). -/
def unaryMemory (form : (MemOperand → Instr) → Shape) : Nat → Option Shape
  | 0x0 => some (form .neg)
  | 0x3 => some (form .com)
  | 0x4 => some (form .lsr)
  | 0x6 => some (form .ror)
  | 0x7 => some (form .asr)
  | 0x8 => some (form .asl)
  | 0x9 => some (form .rol)
  | 0xA => some (form .dec)
  | 0xC => some (form .inc)
  | 0xD => some (form .tst)
  | 0xE => some (form .jmp)
  | 0xF => some (form .clr)
  | _ => none

/-- The single-operand instructions on A, group $4x (30_encoding.md R105). -/
def unaryA : Nat → Option Shape
  | 0x0 => some (.inh .nega)
  | 0x3 => some (.inh .coma)
  | 0x4 => some (.inh .lsra)
  | 0x6 => some (.inh .rora)
  | 0x7 => some (.inh .asra)
  | 0x8 => some (.inh .asla)
  | 0x9 => some (.inh .rola)
  | 0xA => some (.inh .deca)
  | 0xC => some (.inh .inca)
  | 0xD => some (.inh .tsta)
  | 0xF => some (.inh .clra)
  | _ => none

/-- The single-operand instructions on B, group $5x (30_encoding.md R105). -/
def unaryB : Nat → Option Shape
  | 0x0 => some (.inh .negb)
  | 0x3 => some (.inh .comb)
  | 0x4 => some (.inh .lsrb)
  | 0x6 => some (.inh .rorb)
  | 0x7 => some (.inh .asrb)
  | 0x8 => some (.inh .aslb)
  | 0x9 => some (.inh .rolb)
  | 0xA => some (.inh .decb)
  | 0xC => some (.inh .incb)
  | 0xD => some (.inh .tstb)
  | 0xF => some (.inh .clrb)
  | _ => none

/-- Group $1x (30_encoding.md R105). $10 and $11 are no opcodes of page 1: they select pages 2 and 3 (R72). -/
def group1 : Nat → Option Shape
  | 0x2 => some (.inh .nop)
  | 0x3 => some (.inh .sync)
  | 0x6 => some (.rel16 .lbra)
  | 0x7 => some (.rel16 .lbsr)
  | 0x9 => some (.inh .daa)
  | 0xA => some (.imm8 .orcc)
  | 0xC => some (.imm8 .andcc)
  | 0xD => some (.inh .sex)
  | 0xE => some (.regpb .exg)
  | 0xF => some (.regpb .tfr)
  | _ => none

/-- Group $2x, the short branches (30_encoding.md R105, 47_branches.md R241). -/
def shortBranch : Nat → Option Shape
  | 0x0 => some (.rel8 .bra)
  | 0x1 => some (.rel8 .brn)
  | 0x2 => some (.rel8 .bhi)
  | 0x3 => some (.rel8 .bls)
  | 0x4 => some (.rel8 .bcc)
  | 0x5 => some (.rel8 .bcs)
  | 0x6 => some (.rel8 .bne)
  | 0x7 => some (.rel8 .beq)
  | 0x8 => some (.rel8 .bvc)
  | 0x9 => some (.rel8 .bvs)
  | 0xA => some (.rel8 .bpl)
  | 0xB => some (.rel8 .bmi)
  | 0xC => some (.rel8 .bge)
  | 0xD => some (.rel8 .blt)
  | 0xE => some (.rel8 .bgt)
  | 0xF => some (.rel8 .ble)
  | _ => none

/-- Group $3x (30_encoding.md R105). -/
def group3 : Nat → Option Shape
  | 0x0 => some (.idx .leax)
  | 0x1 => some (.idx .leay)
  | 0x2 => some (.idx .leas)
  | 0x3 => some (.idx .leau)
  | 0x4 => some (.stkpb .pshs)
  | 0x5 => some (.stkpb .puls)
  | 0x6 => some (.stkpb .pshu)
  | 0x7 => some (.stkpb .pulu)
  | 0x9 => some (.inh .rts)
  | 0xA => some (.inh .abx)
  | 0xB => some (.inh .rti)
  | 0xC => some (.imm8 .cwai)
  | 0xD => some (.inh .mul)
  | 0xF => some (.inh .swi)
  | _ => none

/-- The format of an 8-bit instruction of the groups $8x to $Fx, by the column `q` of its high nibble: immediate,
direct, indexed, extended (30_encoding.md R105). -/
def op8Shape (q : Nat) (k : Operand8 → Instr) : Shape :=
  match q with
  | 0 => .imm8 fun v => k (.imm v)
  | 1 => dirShape fun m => k (.mem m)
  | 2 => idxShape fun m => k (.mem m)
  | _ => extShape fun m => k (.mem m)

/-- As `op8Shape`, for a 16-bit instruction. -/
def op16Shape (q : Nat) (k : Operand16 → Instr) : Shape :=
  match q with
  | 0 => .imm16 fun v => k (.imm v)
  | 1 => dirShape fun m => k (.mem m)
  | 2 => idxShape fun m => k (.mem m)
  | _ => extShape fun m => k (.mem m)

/-- As `op8Shape`, for an instruction with no immediate form: "A store has no immediate form" (30_encoding.md R105). -/
def memShape (q : Nat) (k : MemOperand → Instr) : Option Shape :=
  match q with
  | 0 => none
  | 1 => some (dirShape k)
  | 2 => some (idxShape k)
  | _ => some (extShape k)

/-- Groups $8x to $Bx, accumulator A, and D and X (30_encoding.md R105). -/
def groupA (q : Nat) : Nat → Option Shape
  | 0x0 => some (op8Shape q .suba)
  | 0x1 => some (op8Shape q .cmpa)
  | 0x2 => some (op8Shape q .sbca)
  | 0x3 => some (op16Shape q .subd)
  | 0x4 => some (op8Shape q .anda)
  | 0x5 => some (op8Shape q .bita)
  | 0x6 => some (op8Shape q .lda)
  | 0x7 => memShape q .sta
  | 0x8 => some (op8Shape q .eora)
  | 0x9 => some (op8Shape q .adca)
  | 0xA => some (op8Shape q .ora)
  | 0xB => some (op8Shape q .adda)
  | 0xC => some (op16Shape q .cmpx)
  | 0xD => if q = 0 then some (.rel8 .bsr) else memShape q .jsr
  | 0xE => some (op16Shape q .ldx)
  | 0xF => memShape q .stx
  | _ => none

/-- Groups $Cx to $Fx, accumulator B, and D and U (30_encoding.md R105). -/
def groupB (q : Nat) : Nat → Option Shape
  | 0x0 => some (op8Shape q .subb)
  | 0x1 => some (op8Shape q .cmpb)
  | 0x2 => some (op8Shape q .sbcb)
  | 0x3 => some (op16Shape q .addd)
  | 0x4 => some (op8Shape q .andb)
  | 0x5 => some (op8Shape q .bitb)
  | 0x6 => some (op8Shape q .ldb)
  | 0x7 => memShape q .stb
  | 0x8 => some (op8Shape q .eorb)
  | 0x9 => some (op8Shape q .adcb)
  | 0xA => some (op8Shape q .orb)
  | 0xB => some (op8Shape q .addb)
  | 0xC => some (op16Shape q .ldd)
  | 0xD => memShape q .std
  | 0xE => some (op16Shape q .ldu)
  | 0xF => memShape q .stu
  | _ => none

/-- Page 1: the high nibble of the opcode selects a group, the low nibble an operation (30_encoding.md R105). -/
def page1 (op : Byte) : Option Shape :=
  let lo := op.toNat % 16
  match op.toNat / 16 with
  | 0x0 => unaryMemory dirShape lo
  | 0x1 => group1 lo
  | 0x2 => shortBranch lo
  | 0x3 => group3 lo
  | 0x4 => unaryA lo
  | 0x5 => unaryB lo
  | 0x6 => unaryMemory idxShape lo
  | 0x7 => unaryMemory extShape lo
  | 0x8 => groupA 0 lo
  | 0x9 => groupA 1 lo
  | 0xA => groupA 2 lo
  | 0xB => groupA 3 lo
  | 0xC => groupB 0 lo
  | 0xD => groupB 1 lo
  | 0xE => groupB 2 lo
  | 0xF => groupB 3 lo
  | _ => none

/-- The long conditional branches of page 2 (30_encoding.md R106); LBRA is on page 1 and $1020 is illegal. -/
def longBranch : Nat → Option Shape
  | 0x1 => some (.rel16 .lbrn)
  | 0x2 => some (.rel16 .lbhi)
  | 0x3 => some (.rel16 .lbls)
  | 0x4 => some (.rel16 .lbcc)
  | 0x5 => some (.rel16 .lbcs)
  | 0x6 => some (.rel16 .lbne)
  | 0x7 => some (.rel16 .lbeq)
  | 0x8 => some (.rel16 .lbvc)
  | 0x9 => some (.rel16 .lbvs)
  | 0xA => some (.rel16 .lbpl)
  | 0xB => some (.rel16 .lbmi)
  | 0xC => some (.rel16 .lbge)
  | 0xD => some (.rel16 .lblt)
  | 0xE => some (.rel16 .lbgt)
  | 0xF => some (.rel16 .lble)
  | _ => none

/-- Page 2, groups $108x to $10Bx: CMPD, CMPY, LDY, STY (30_encoding.md R106). -/
def page2GroupY (q : Nat) : Nat → Option Shape
  | 0x3 => some (op16Shape q .cmpd)
  | 0xC => some (op16Shape q .cmpy)
  | 0xE => some (op16Shape q .ldy)
  | 0xF => memShape q .sty
  | _ => none

/-- Page 2, groups $10Cx to $10Fx: LDS, STS (30_encoding.md R106). -/
def page2GroupS (q : Nat) : Nat → Option Shape
  | 0xE => some (op16Shape q .lds)
  | 0xF => memShape q .sts
  | _ => none

/-- Page 2, after $10 (30_encoding.md R106). -/
def page2 (op : Byte) : Option Shape :=
  let lo := op.toNat % 16
  match op.toNat / 16 with
  | 0x2 => longBranch lo
  | 0x3 => if lo = 0xF then some (.inh .swi2) else none
  | 0x8 => page2GroupY 0 lo
  | 0x9 => page2GroupY 1 lo
  | 0xA => page2GroupY 2 lo
  | 0xB => page2GroupY 3 lo
  | 0xC => page2GroupS 0 lo
  | 0xD => page2GroupS 1 lo
  | 0xE => page2GroupS 2 lo
  | 0xF => page2GroupS 3 lo
  | _ => none

/-- Page 3, groups $118x to $11Bx: CMPU, CMPS (30_encoding.md R107). -/
def page3Group (q : Nat) : Nat → Option Shape
  | 0x3 => some (op16Shape q .cmpu)
  | 0xC => some (op16Shape q .cmps)
  | _ => none

/-- Page 3, after $11 (30_encoding.md R107). -/
def page3 (op : Byte) : Option Shape :=
  let lo := op.toNat % 16
  match op.toNat / 16 with
  | 0x3 => if lo = 0xF then some (.inh .swi3) else none
  | 0x8 => page3Group 0 lo
  | 0x9 => page3Group 1 lo
  | 0xA => page3Group 2 lo
  | 0xB => page3Group 3 lo
  | _ => none

/-! ## Postbytes -/

/-- The base register of the field `RR` (30_encoding.md R89). -/
def IndexReg.ofCode (c : BitVec 2) : IndexReg :=
  match c.toNat with
  | 0 => .x
  | 1 => .y
  | 2 => .u
  | _ => .s

/-- The register a 4-bit code of the register postbyte names, if it is assigned (30_encoding.md R84). -/
def Reg.ofCode (c : BitVec 4) : Option Reg :=
  match c.toNat with
  | 0x0 => some (.r16 .d)
  | 0x1 => some (.r16 .x)
  | 0x2 => some (.r16 .y)
  | 0x3 => some (.r16 .u)
  | 0x4 => some (.r16 .s)
  | 0x5 => some (.r16 .pc)
  | 0x8 => some (.r8 .a)
  | 0x9 => some (.r8 .b)
  | 0xA => some (.r8 .cc)
  | 0xB => some (.r8 .dp)
  | _ => none

/-- The bit 3 of a register code is its size: "A postbyte is legal when both codes are assigned and both have the
same size" (30_encoding.md R84). -/
def decodeRegisterPostbyte (pb : Byte) : Except DecodeError (Reg × Reg) :=
  match Reg.ofCode (pb.extractLsb' 4 4), Reg.ofCode (pb.extractLsb' 0 4) with
  | some (.r16 r1), some (.r16 r2) => .ok (.r16 r1, .r16 r2)
  | some (.r8 r1), some (.r8 r2) => .ok (.r8 r1, .r8 r2)
  | _, _ => .error .illegalRegisterPostbyte

/-- How many offset bytes follow an indexed postbyte, the `extra` of 30_encoding.md R103. -/
def indexedExtra (pb : Byte) : Nat :=
  if pb.getLsbD 7 then
    match (pb.extractLsb' 0 4).toNat with
    | 0x8 => 1
    | 0x9 => 2
    | 0xC => 1
    | 0xD => 2
    | 0xF => if pb = 0x9F#8 then 2 else 0
    | _ => 0
  else 0

/-- One byte of an operand. -/
def takeByte {α : Type} (k : Byte → α) : List Byte → Except DecodeError (α × List Byte)
  | b :: bs => .ok (k b, bs)
  | [] => .error .truncated

/-- Two bytes of an operand, the high byte first (30_encoding.md R76). -/
def takeWord {α : Type} (k : Word → α) : List Byte → Except DecodeError (α × List Byte)
  | h :: l :: bs => .ok (k (joinBytes h l), bs)
  | _ => .error .truncated

/-- The indexed postbyte and its offset bytes (30_encoding.md R88 to R103). -/
def decodeIndexed : List Byte → Except DecodeError (Indexed × List Byte)
  | [] => .error .truncated
  | pb :: bs =>
    let r := IndexReg.ofCode (pb.extractLsb' 5 2)
    let i := pb.getLsbD 4
    if pb.getLsbD 7 then
      match (pb.extractLsb' 0 4).toNat with
      | 0x0 => if i then .error .illegalIndexedPostbyte else .ok (.inc1 r, bs)
      | 0x1 => .ok (.inc2 r i, bs)
      | 0x2 => if i then .error .illegalIndexedPostbyte else .ok (.dec1 r, bs)
      | 0x3 => .ok (.dec2 r i, bs)
      | 0x4 => .ok (.off0 r i, bs)
      | 0x5 => .ok (.accB r i, bs)
      | 0x6 => .ok (.accA r i, bs)
      | 0x8 => takeByte (fun n => .off8 r n i) bs
      | 0x9 => takeWord (fun n => .off16 r n i) bs
      | 0xB => .ok (.accD r i, bs)
      | 0xC => takeByte (fun n => .pcr8 n i) bs
      | 0xD => takeWord (fun n => .pcr16 n i) bs
      | 0xF => if pb = 0x9F#8 then takeWord .extInd bs else .error .illegalIndexedPostbyte
      | _ => .error .illegalIndexedPostbyte
    else .ok (.off5 r (pb.extractLsb' 0 5), bs)

/-! ## The decoder -/

/-- The operand bytes of a format (30_encoding.md R73). -/
def decodeShape : Shape → List Byte → Decoded
  | .inh i, bs => .ok (i, bs)
  | .imm8 k, bs => takeByte k bs
  | .imm16 k, bs => takeWord k bs
  | .dir k, bs => takeByte k bs
  | .ext k, bs => takeWord k bs
  | .rel8 k, bs => takeByte k bs
  | .rel16 k, bs => takeWord k bs
  | .stkpb k, bs => takeByte k bs
  | .idx k, bs =>
    match decodeIndexed bs with
    | .ok (ix, rest) => .ok (k ix, rest)
    | .error e => .error e
  | .regpb k, pb :: bs =>
    match decodeRegisterPostbyte pb with
    | .ok (r1, r2) => .ok (k r1 r2, bs)
    | .error e => .error e
  | .regpb _, [] => .error .truncated

/-- The operand of an opcode, or the refusal of an opcode no table lists (30_encoding.md R108). -/
def decodeOpcode (sh : Option Shape) (bs : List Byte) : Decoded :=
  match sh with
  | some sh => decodeShape sh bs
  | none => .error .illegalOpcode

/-- The opcode after $10 or $11 (30_encoding.md R72). -/
def decodeSecond (page : Byte → Option Shape) : List Byte → Decoded
  | [] => .error .truncated
  | op :: bs => decodeOpcode (page op) bs

/-- The first instruction of a list of bytes, with the bytes that follow it (30_encoding.md R70, R72). -/
def decode : List Byte → Decoded
  | [] => .error .truncated
  | b :: bs =>
    if b = 0x10#8 then decodeSecond page2 bs
    else if b = 0x11#8 then decodeSecond page3 bs
    else decodeOpcode (page1 b) bs

/-- How many operand bytes a format has, as far as the bytes after the opcode already known tell (30_encoding.md
R74): the postbyte of an indexed form says how many offset bytes follow it. -/
def operandBytes (sh : Option Shape) (known : List Byte) : Nat :=
  match sh with
  | none => 0
  | some (.inh _) => 0
  | some (.imm8 _) => 1
  | some (.imm16 _) => 2
  | some (.dir _) => 1
  | some (.ext _) => 2
  | some (.rel8 _) => 1
  | some (.rel16 _) => 2
  | some (.regpb _) => 1
  | some (.stkpb _) => 1
  | some (.idx _) =>
    match known with
    | [] => 1
    | pb :: _ => 1 + indexedExtra pb

/-- How many bytes the instruction has whose first bytes are `known`, as far as those tell. "The length depends only
on the first one, two or three bytes of the instruction" (30_encoding.md R74). -/
def bytesNeeded : List Byte → Nat
  | [] => 1
  | b :: bs =>
    if b = 0x10#8 then
      match bs with
      | [] => 2
      | op :: rest => 2 + operandBytes (page2 op) rest
    else if b = 0x11#8 then
      match bs with
      | [] => 2
      | op :: rest => 2 + operandBytes (page3 op) rest
    else 1 + operandBytes (page1 b) bs

/-! ## The encoder -/

/-- The field `RR` of a base register (30_encoding.md R89). -/
def IndexReg.code : IndexReg → BitVec 2
  | .x => 0b00#2
  | .y => 0b01#2
  | .u => 0b10#2
  | .s => 0b11#2

/-- The 4-bit code of a register of TFR and EXG (30_encoding.md R84). -/
def Reg.code : Reg → BitVec 4
  | .r16 .d => 0b0000#4
  | .r16 .x => 0b0001#4
  | .r16 .y => 0b0010#4
  | .r16 .u => 0b0011#4
  | .r16 .s => 0b0100#4
  | .r16 .pc => 0b0101#4
  | .r8 .a => 0b1000#4
  | .r8 .b => 0b1001#4
  | .r8 .cc => 0b1010#4
  | .r8 .dp => 0b1011#4

/-- The postbyte of TFR and EXG: the first register in bits 7 to 4 (30_encoding.md R83). -/
def registerPostbyte (r1 r2 : Reg) : Byte := r1.code ++ r2.code

/-- The indexed postbyte with bit 7 set: `1 RR i mmmm` (30_encoding.md R88). -/
def longPostbyte (r : BitVec 2) (ind : Bool) (mode : BitVec 4) : Byte :=
  1#1 ++ r ++ BitVec.ofBool ind ++ mode

/-- The indexed postbyte and its offset bytes. In the PC-relative forms "an assembler writes %00" for `RR`
(30_encoding.md R89). -/
def encodeIndexed : Indexed → List Byte
  | .off5 r n => [0#1 ++ r.code ++ n]
  | .off0 r ind => [longPostbyte r.code ind 0b0100#4]
  | .off8 r n ind => [longPostbyte r.code ind 0b1000#4, n]
  | .off16 r n ind => [longPostbyte r.code ind 0b1001#4, highByte n, lowByte n]
  | .accA r ind => [longPostbyte r.code ind 0b0110#4]
  | .accB r ind => [longPostbyte r.code ind 0b0101#4]
  | .accD r ind => [longPostbyte r.code ind 0b1011#4]
  | .inc1 r => [longPostbyte r.code false 0b0000#4]
  | .inc2 r ind => [longPostbyte r.code ind 0b0001#4]
  | .dec1 r => [longPostbyte r.code false 0b0010#4]
  | .dec2 r ind => [longPostbyte r.code ind 0b0011#4]
  | .pcr8 n ind => [longPostbyte 0b00#2 ind 0b1100#4, n]
  | .pcr16 n ind => [longPostbyte 0b00#2 ind 0b1101#4, highByte n, lowByte n]
  | .extInd addr => [0x9F#8, highByte addr, lowByte addr]

/-- A memory operand under its direct, indexed and extended opcodes, after the page byte if there is one. -/
def encodeMem (page : List Byte) (dir idx ext : Byte) : MemOperand → List Byte
  | .dir off => page ++ [dir, off]
  | .idx ix => page ++ idx :: encodeIndexed ix
  | .ext addr => page ++ [ext, highByte addr, lowByte addr]

/-- An 8-bit operand under its immediate opcode `op`; the direct, indexed and extended opcodes are $10, $20, $30
above it (30_encoding.md R105). -/
def encodeOp8 (page : List Byte) (op : Byte) : Operand8 → List Byte
  | .imm v => page ++ [op, v]
  | .mem m => encodeMem page (op + 0x10#8) (op + 0x20#8) (op + 0x30#8) m

/-- As `encodeOp8`, for a 16-bit operand. -/
def encodeOp16 (page : List Byte) (op : Byte) : Operand16 → List Byte
  | .imm v => page ++ [op, highByte v, lowByte v]
  | .mem m => encodeMem page (op + 0x10#8) (op + 0x20#8) (op + 0x30#8) m

/-- The bytes of an instruction, in the order of their addresses (30_encoding.md R70). -/
def encode : Instr → List Byte
  | .exg r1 r2 => [0x1E#8, registerPostbyte r1 r2]
  | .tfr r1 r2 => [0x1F#8, registerPostbyte r1 r2]
  | .lda op => encodeOp8 [] 0x86#8 op
  | .ldb op => encodeOp8 [] 0xC6#8 op
  | .ldd op => encodeOp16 [] 0xCC#8 op
  | .ldx op => encodeOp16 [] 0x8E#8 op
  | .ldy op => encodeOp16 [0x10#8] 0x8E#8 op
  | .ldu op => encodeOp16 [] 0xCE#8 op
  | .lds op => encodeOp16 [0x10#8] 0xCE#8 op
  | .sta m => encodeMem [] 0x97#8 0xA7#8 0xB7#8 m
  | .stb m => encodeMem [] 0xD7#8 0xE7#8 0xF7#8 m
  | .std m => encodeMem [] 0xDD#8 0xED#8 0xFD#8 m
  | .stx m => encodeMem [] 0x9F#8 0xAF#8 0xBF#8 m
  | .sty m => encodeMem [0x10#8] 0x9F#8 0xAF#8 0xBF#8 m
  | .stu m => encodeMem [] 0xDF#8 0xEF#8 0xFF#8 m
  | .sts m => encodeMem [0x10#8] 0xDF#8 0xEF#8 0xFF#8 m
  | .pshs pb => [0x34#8, pb]
  | .pshu pb => [0x36#8, pb]
  | .puls pb => [0x35#8, pb]
  | .pulu pb => [0x37#8, pb]
  | .adda op => encodeOp8 [] 0x8B#8 op
  | .addb op => encodeOp8 [] 0xCB#8 op
  | .addd op => encodeOp16 [] 0xC3#8 op
  | .adca op => encodeOp8 [] 0x89#8 op
  | .adcb op => encodeOp8 [] 0xC9#8 op
  | .abx => [0x3A#8]
  | .daa => [0x19#8]
  | .mul => [0x3D#8]
  | .suba op => encodeOp8 [] 0x80#8 op
  | .subb op => encodeOp8 [] 0xC0#8 op
  | .subd op => encodeOp16 [] 0x83#8 op
  | .sbca op => encodeOp8 [] 0x82#8 op
  | .sbcb op => encodeOp8 [] 0xC2#8 op
  | .sex => [0x1D#8]
  | .anda op => encodeOp8 [] 0x84#8 op
  | .andb op => encodeOp8 [] 0xC4#8 op
  | .eora op => encodeOp8 [] 0x88#8 op
  | .eorb op => encodeOp8 [] 0xC8#8 op
  | .ora op => encodeOp8 [] 0x8A#8 op
  | .orb op => encodeOp8 [] 0xCA#8 op
  | .andcc imm8 => [0x1C#8, imm8]
  | .orcc imm8 => [0x1A#8, imm8]
  | .asra => [0x47#8]
  | .asrb => [0x57#8]
  | .asr m => encodeMem [] 0x07#8 0x67#8 0x77#8 m
  | .asla => [0x48#8]
  | .aslb => [0x58#8]
  | .asl m => encodeMem [] 0x08#8 0x68#8 0x78#8 m
  | .lsra => [0x44#8]
  | .lsrb => [0x54#8]
  | .lsr m => encodeMem [] 0x04#8 0x64#8 0x74#8 m
  | .rola => [0x49#8]
  | .rolb => [0x59#8]
  | .rol m => encodeMem [] 0x09#8 0x69#8 0x79#8 m
  | .rora => [0x46#8]
  | .rorb => [0x56#8]
  | .ror m => encodeMem [] 0x06#8 0x66#8 0x76#8 m
  | .clra => [0x4F#8]
  | .clrb => [0x5F#8]
  | .clr m => encodeMem [] 0x0F#8 0x6F#8 0x7F#8 m
  | .deca => [0x4A#8]
  | .decb => [0x5A#8]
  | .dec m => encodeMem [] 0x0A#8 0x6A#8 0x7A#8 m
  | .inca => [0x4C#8]
  | .incb => [0x5C#8]
  | .inc m => encodeMem [] 0x0C#8 0x6C#8 0x7C#8 m
  | .coma => [0x43#8]
  | .comb => [0x53#8]
  | .com m => encodeMem [] 0x03#8 0x63#8 0x73#8 m
  | .nega => [0x40#8]
  | .negb => [0x50#8]
  | .neg m => encodeMem [] 0x00#8 0x60#8 0x70#8 m
  | .nop => [0x12#8]
  | .bita op => encodeOp8 [] 0x85#8 op
  | .bitb op => encodeOp8 [] 0xC5#8 op
  | .cmpa op => encodeOp8 [] 0x81#8 op
  | .cmpb op => encodeOp8 [] 0xC1#8 op
  | .cmpd op => encodeOp16 [0x10#8] 0x83#8 op
  | .cmpx op => encodeOp16 [] 0x8C#8 op
  | .cmpy op => encodeOp16 [0x10#8] 0x8C#8 op
  | .cmpu op => encodeOp16 [0x11#8] 0x83#8 op
  | .cmps op => encodeOp16 [0x11#8] 0x8C#8 op
  | .tsta => [0x4D#8]
  | .tstb => [0x5D#8]
  | .tst m => encodeMem [] 0x0D#8 0x6D#8 0x7D#8 m
  | .bra rel8 => [0x20#8, rel8]
  | .brn rel8 => [0x21#8, rel8]
  | .bhi rel8 => [0x22#8, rel8]
  | .bls rel8 => [0x23#8, rel8]
  | .bcc rel8 => [0x24#8, rel8]
  | .bcs rel8 => [0x25#8, rel8]
  | .bne rel8 => [0x26#8, rel8]
  | .beq rel8 => [0x27#8, rel8]
  | .bvc rel8 => [0x28#8, rel8]
  | .bvs rel8 => [0x29#8, rel8]
  | .bpl rel8 => [0x2A#8, rel8]
  | .bmi rel8 => [0x2B#8, rel8]
  | .bge rel8 => [0x2C#8, rel8]
  | .blt rel8 => [0x2D#8, rel8]
  | .bgt rel8 => [0x2E#8, rel8]
  | .ble rel8 => [0x2F#8, rel8]
  | .lbra rel16 => [0x16#8, highByte rel16, lowByte rel16]
  | .lbrn rel16 => [0x10#8, 0x21#8, highByte rel16, lowByte rel16]
  | .lbhi rel16 => [0x10#8, 0x22#8, highByte rel16, lowByte rel16]
  | .lbls rel16 => [0x10#8, 0x23#8, highByte rel16, lowByte rel16]
  | .lbcc rel16 => [0x10#8, 0x24#8, highByte rel16, lowByte rel16]
  | .lbcs rel16 => [0x10#8, 0x25#8, highByte rel16, lowByte rel16]
  | .lbne rel16 => [0x10#8, 0x26#8, highByte rel16, lowByte rel16]
  | .lbeq rel16 => [0x10#8, 0x27#8, highByte rel16, lowByte rel16]
  | .lbvc rel16 => [0x10#8, 0x28#8, highByte rel16, lowByte rel16]
  | .lbvs rel16 => [0x10#8, 0x29#8, highByte rel16, lowByte rel16]
  | .lbpl rel16 => [0x10#8, 0x2A#8, highByte rel16, lowByte rel16]
  | .lbmi rel16 => [0x10#8, 0x2B#8, highByte rel16, lowByte rel16]
  | .lbge rel16 => [0x10#8, 0x2C#8, highByte rel16, lowByte rel16]
  | .lblt rel16 => [0x10#8, 0x2D#8, highByte rel16, lowByte rel16]
  | .lbgt rel16 => [0x10#8, 0x2E#8, highByte rel16, lowByte rel16]
  | .lble rel16 => [0x10#8, 0x2F#8, highByte rel16, lowByte rel16]
  | .jmp m => encodeMem [] 0x0E#8 0x6E#8 0x7E#8 m
  | .jsr m => encodeMem [] 0x9D#8 0xAD#8 0xBD#8 m
  | .bsr rel8 => [0x8D#8, rel8]
  | .lbsr rel16 => [0x17#8, highByte rel16, lowByte rel16]
  | .rts => [0x39#8]
  | .leax ix => 0x30#8 :: encodeIndexed ix
  | .leay ix => 0x31#8 :: encodeIndexed ix
  | .leas ix => 0x32#8 :: encodeIndexed ix
  | .leau ix => 0x33#8 :: encodeIndexed ix
  | .cwai imm8 => [0x3C#8, imm8]
  | .sync => [0x13#8]
  | .rti => [0x3B#8]
  | .swi => [0x3F#8]
  | .swi2 => [0x10#8] ++ [0x3F#8]
  | .swi3 => [0x11#8] ++ [0x3F#8]

/-! ## The host's numbering of the table's words -/

/-- The bytes of a word of `nbits` bits, its least significant byte first. -/
def lowFirst : Nat → Nat → List Byte
  | 0, _ => []
  | n + 1, w => BitVec.ofNat 8 w :: lowFirst n (w / 256)

/-- The bytes, in the order of their addresses, of an instruction given as spec/opcode_table.json gives it. The table
writes an opcode of pages 2 and 3 as one 16-bit number "with the first byte most significant" (30_encoding.md R111),
so a 16-bit word whose high byte is $10 or $11 is that byte and then the opcode. Any other word has the first byte in
its least significant bits. No instruction has the two readings (assumption log 18). -/
def tableBytes (nbits w : Nat) : List Byte :=
  if nbits = 16 ∧ (w / 256 = 0x10 ∨ w / 256 = 0x11) then [BitVec.ofNat 8 (w / 256), BitVec.ofNat 8 w]
  else lowFirst ((nbits + 7) / 8) w

/-- The longest instruction has 5 bytes (30_encoding.md R70). -/
def maxInstrBytes : Nat := 5

/-- The bytes of `tableBytes`, with zeros up to the longest instruction. -/
def paddedTableBytes (nbits w : Nat) : List Byte :=
  (tableBytes nbits w ++ List.replicate maxInstrBytes 0x00#8).take maxInstrBytes

/-- The instruction the decoder reads from a word of spec/opcode_table.json; `none` where it refuses. -/
def decodeTableWord (nbits w : Nat) : Option Instr :=
  match decode (paddedTableBytes nbits w) with
  | .ok (i, _) => some i
  | .error _ => none

end Sys2Proof
end

