-- ==== Sys2Proof/Machine/Flags.lean ====
section
/-! DEFINITION. The condition codes, and every computation that writes them: the helpers of 00_scope.md R12 and R13 and
the operations of files 42 to 46 as functions from operands and the old CC to the result and the new CC, and the
branch conditions of 47_branches.md R241. A flag that an operation leaves undefined is an argument. -/

namespace Sys2Proof.Machine

/-- The bits of CC (10_state.md R30). -/
inductive Flag where
  | e | f | h | i | n | z | v | c
  deriving DecidableEq, Repr

/-- The place of a flag in CC (10_state.md R30). -/
def Flag.bit : Flag → Nat
  | .e => 7
  | .f => 6
  | .h => 5
  | .i => 4
  | .n => 3
  | .z => 2
  | .v => 1
  | .c => 0

/-- A flag of CC. -/
def ccGet (cc : Byte) (fl : Flag) : Bool := cc.getLsbD fl.bit

/-- CC with one flag written: it "receives 1 when cond holds and 0 when it does not" (00_scope.md R12). -/
def ccPut (cc : Byte) (fl : Flag) (v : Bool) : Byte :=
  if v then cc ||| (1#8 <<< fl.bit) else cc &&& ~~~(1#8 <<< fl.bit)

/-- `SetNZ8` (00_scope.md R12). -/
def setNZ8 (cc r : Byte) : Byte := ccPut (ccPut cc .n r.msb) .z (r == 0#8)

/-- `SetNZ16` (00_scope.md R12). -/
def setNZ16 (cc : Byte) (r : Word) : Byte := ccPut (ccPut cc .n r.msb) .z (r == 0#16)

/-- N and Z from an 8-bit value, V cleared: loads, stores, logic, BIT, TST (10_state.md R39). -/
def logicFlags8 (cc r : Byte) : Byte := ccPut (setNZ8 cc r) .v false

/-- N and Z from a 16-bit value, V cleared: loads and stores (10_state.md R39). -/
def logicFlags16 (cc : Byte) (r : Word) : Byte := ccPut (setNZ16 cc r) .v false

/-- `Add8` (00_scope.md R13): the sum with the carry, and CC. -/
def add8 (cc a b : Byte) (cin : Bool) : Byte × Byte :=
  let t := a.toNat + b.toNat + cin.toNat
  let r := BitVec.ofNat 8 t
  let cc := ccPut cc .h (decide (16 ≤ a.toNat % 16 + b.toNat % 16 + cin.toNat))
  let cc := ccPut cc .c (decide (256 ≤ t))
  let cc := ccPut cc .v (a.msb == b.msb && r.msb != a.msb)
  (r, setNZ8 cc r)

/-- `Sub8` (00_scope.md R13): `a - b - bin`, and CC; H takes the value `h`, which the caller leaves free
(93_implementation_defined.md U1). -/
def sub8 (cc a b : Byte) (bin h : Bool) : Byte × Byte :=
  let t : Int := (a.toNat : Int) - (b.toNat : Int) - (bin.toNat : Int)
  let r := BitVec.ofInt 8 t
  let cc := ccPut cc .c (decide (t < 0))
  let cc := ccPut cc .v (a.msb != b.msb && r.msb != a.msb)
  let cc := ccPut cc .h h
  (r, setNZ8 cc r)

/-- `Add16` (00_scope.md R13); H is not written. -/
def add16 (cc : Byte) (a b : Word) : Word × Byte :=
  let t := a.toNat + b.toNat
  let r := BitVec.ofNat 16 t
  let cc := ccPut cc .c (decide (65536 ≤ t))
  let cc := ccPut cc .v (a.msb == b.msb && r.msb != a.msb)
  (r, setNZ16 cc r)

/-- `Sub16` (00_scope.md R13); H is not written. -/
def sub16 (cc : Byte) (a b : Word) : Word × Byte :=
  let t : Int := (a.toNat : Int) - (b.toNat : Int)
  let r := BitVec.ofInt 16 t
  let cc := ccPut cc .c (decide (t < 0))
  let cc := ccPut cc .v (a.msb != b.msb && r.msb != a.msb)
  (r, setNZ16 cc r)

/-- The correction that DAA adds (42_arithmetic.md R157). -/
def daaCorrection (cc a : Byte) : Byte :=
  let lo := a.toNat % 16
  let hi := a.toNat / 16
  let low := if ccGet cc .h || decide (9 < lo) then 0x06#8 else 0x00#8
  let high := if ccGet cc .c || decide (9 < hi) || (decide (8 < hi) && decide (9 < lo)) then 0x60#8 else 0x00#8
  low ||| high

/-- DAA (42_arithmetic.md R157); V takes the value `v`, which the caller leaves free (93_implementation_defined.md U3). -/
def daa8 (cc a : Byte) (v : Bool) : Byte × Byte :=
  let t := a.toNat + (daaCorrection cc a).toNat
  let r := BitVec.ofNat 8 t
  let cc := ccPut cc .c (ccGet cc .c || decide (256 ≤ t))
  let cc := setNZ8 cc r
  (r, ccPut cc .v v)

/-- MUL (42_arithmetic.md R158): the unsigned product, Z from it and C its bit 7. -/
def mul8 (cc a b : Byte) : Word × Byte :=
  let p := BitVec.ofNat 16 (a.toNat * b.toNat)
  let cc := ccPut cc .z (p == 0#16)
  (p, ccPut cc .c (p.getLsbD 7))

/-- SEX (42_arithmetic.md R164): the new A, and CC with N and Z from the new D. V is not changed (assumption log 15). -/
def sex8 (cc b : Byte) : Byte × Byte :=
  let a := if b.msb then 0xFF#8 else 0x00#8
  (a, setNZ16 cc (joinBytes a b))

/-- `Asr8` (44_shift_rotate.md R182); H takes the value `h`, which the caller leaves free (93_implementation_defined.md U2). -/
def asr8 (cc m : Byte) (h : Bool) : Byte × Byte :=
  let r : Byte := BitVec.ofBool (m.getLsbD 7) ++ m.extractLsb' 1 7
  let cc := setNZ8 (ccPut cc .c (m.getLsbD 0)) r
  (r, ccPut cc .h h)

/-- `Asl8` (44_shift_rotate.md R182); H takes the value `h`, which the caller leaves free (93_implementation_defined.md U2). -/
def asl8 (cc m : Byte) (h : Bool) : Byte × Byte :=
  let r : Byte := m.extractLsb' 0 7 ++ 0#1
  let cc := ccPut (ccPut cc .c (m.getLsbD 7)) .v (m.getLsbD 7 ^^ m.getLsbD 6)
  (r, ccPut (setNZ8 cc r) .h h)

/-- `Lsr8` (44_shift_rotate.md R182). -/
def lsr8 (cc m : Byte) : Byte × Byte :=
  let r : Byte := 0#1 ++ m.extractLsb' 1 7
  let cc := ccPut (ccPut cc .c (m.getLsbD 0)) .n false
  (r, ccPut cc .z (r == 0#8))

/-- `Rol8` (44_shift_rotate.md R182). -/
def rol8 (cc m : Byte) : Byte × Byte :=
  let r : Byte := m.extractLsb' 0 7 ++ BitVec.ofBool (ccGet cc .c)
  let cc := ccPut (ccPut cc .c (m.getLsbD 7)) .v (m.getLsbD 7 ^^ m.getLsbD 6)
  (r, setNZ8 cc r)

/-- `Ror8` (44_shift_rotate.md R182). -/
def ror8 (cc m : Byte) : Byte × Byte :=
  let r : Byte := BitVec.ofBool (ccGet cc .c) ++ m.extractLsb' 1 7
  (r, setNZ8 (ccPut cc .c (m.getLsbD 0)) r)

/-- CLR (45_inc_dec_clr_com_neg_nop.md R201): the flags of a cleared operand. -/
def clrFlags (cc : Byte) : Byte :=
  ccPut (ccPut (ccPut (ccPut cc .n false) .z true) .v false) .c false

/-- DEC (45_inc_dec_clr_com_neg_nop.md R204); C and H are not changed. -/
def dec8 (cc m : Byte) : Byte × Byte :=
  let r := m - 1#8
  (r, ccPut (setNZ8 cc r) .v (m == 0x80#8))

/-- INC (45_inc_dec_clr_com_neg_nop.md R207); C and H are not changed. -/
def inc8 (cc m : Byte) : Byte × Byte :=
  let r := m + 1#8
  (r, ccPut (setNZ8 cc r) .v (m == 0x7F#8))

/-- COM (45_inc_dec_clr_com_neg_nop.md R210): C is set. -/
def com8 (cc m : Byte) : Byte × Byte :=
  let r := ~~~m
  (r, ccPut (ccPut (setNZ8 cc r) .v false) .c true)

/-- The branch conditions, in the order of the opcodes (47_branches.md R241). -/
inductive Cond where
  | always | never | hi | ls | cc | cs | ne | eq | vc | vs | pl | mi | ge | lt | gt | le
  deriving DecidableEq, Repr

/-- When a branch is taken (47_branches.md R241). -/
def condHolds (cc : Byte) : Cond → Bool
  | .always => true
  | .never => false
  | .hi => !ccGet cc .c && !ccGet cc .z
  | .ls => ccGet cc .c || ccGet cc .z
  | .cc => !ccGet cc .c
  | .cs => ccGet cc .c
  | .ne => !ccGet cc .z
  | .eq => ccGet cc .z
  | .vc => !ccGet cc .v
  | .vs => ccGet cc .v
  | .pl => !ccGet cc .n
  | .mi => ccGet cc .n
  | .ge => !(ccGet cc .n ^^ ccGet cc .v)
  | .lt => ccGet cc .n ^^ ccGet cc .v
  | .gt => !ccGet cc .z && !(ccGet cc .n ^^ ccGet cc .v)
  | .le => ccGet cc .z || (ccGet cc .n ^^ ccGet cc .v)

end Sys2Proof.Machine
end

