-- ==== Sys2Proof/Config.lean ====
section
/-! DEFINITION. What the implementation or the platform fixes and the spec leaves open: the free values
(`draw`, 00_scope.md R15), and the byte that unlisted memory reads as. A free value is a constant with no body:
no proof can see what it is, so a claim holds whatever it is. Each is applied to `State.draws`, which every draw
advances, so that two draws are independent. -/

namespace Sys2Proof.Config

/-- `draw(1)`: the value of a flag that an instruction leaves undefined (93_implementation_defined.md U1, U2, U3;
assumption log 8). -/
opaque freeBit : Nat → Bool

/-- `draw(8)`: what an address reads as where the platform has nothing (20_memory.md R54; assumption log 5), and
an 8-bit register after a reset in the middle of a run (assumption log 11). -/
opaque freeByte : Nat → Byte

/-- `draw(16)`: a 16-bit register after a reset in the middle of a run (70_reset_and_hazards.md R361; assumption
log 11). -/
opaque freeWord : Nat → Word

/-- What a device answers to a read of the address: "whatever the device answers" (20_memory.md R54; assumption
log 4). -/
opaque deviceAnswer : Nat → Word → Byte

/-- What a byte of RAM or ROM that nothing has placed or written reads as. DESIGN CHOICE (unsafe): the spec leaves
RAM at power-on unspecified (70_reset_and_hazards.md R363); assumption log 2. -/
def unlistedByte : Byte := 0x00#8

end Sys2Proof.Config
end

