-- ==== Sys2Proof/Machine/State.lean ====
section
/-! DEFINITION. The state of the 6809, its two ways to stop, and the state right after reset (10_state.md,
70_reset_and_hazards.md). Plain data throughout. -/

namespace Sys2Proof.Machine

/-- There is no fault: "The 6809 has no synchronous fault: no instruction traps on an illegal opcode, a bad address
or an arithmetic condition" (00_scope.md R14, 60_exceptions.md R321). Nobody raises one. -/
inductive Fault where
  deriving DecidableEq, Repr

/-- Why a step has no defined outcome: "an encoding to which the spec gives no meaning" (00_scope.md R14). Every
refusal is safe: the chip goes on where the model stops, so a claim may become unprovable but none becomes false. -/
inductive Refusal where
  /-- Raised by an arm of `exec` whose instruction has no meaning yet; no arm raises it. Safe. -/
  | notModelled (mnemonic : String)
  /-- `refuse(illegal opcode)`, raised by the fetch for an opcode no table lists, a page byte after a page byte
  included (30_encoding.md R108, R109; 93_implementation_defined.md U4, U9). Safe. -/
  | illegalOpcode
  /-- `refuse(illegal indexed postbyte)`, raised by the fetch (30_encoding.md R102; U5). Safe. -/
  | illegalIndexedPostbyte
  /-- `refuse(illegal register postbyte)`, raised by the fetch, and by TFR and EXG for a term that names two registers
  of different sizes (30_encoding.md R84, 40_data_transfer.md R121, R122; U6). Safe. -/
  | illegalRegisterPostbyte
  /-- The bytes end before the instruction does. The fetch reads every byte an instruction has, so no step raises it. Safe. -/
  | truncatedInstruction
  deriving DecidableEq, Repr

/-- `wait_state` (10_state.md R43). -/
inductive WaitState where
  | running
  | syncWait
  | cwaiWait
  deriving DecidableEq, Repr

/-- What the platform has at an address (20_memory.md R54, R56). -/
inductive MemKind where
  | ram
  | rom
  | device
  | empty
  deriving DecidableEq, Repr

/-- A stretch of addresses, both ends included, with what the platform has there (`mem_map`, 00_scope.md R5). -/
structure Region where
  first : Word
  last : Word
  kind : MemKind
  deriving DecidableEq, Repr

/-- The four facts that `irq_env` gives at a step (60_exceptions.md R322). -/
structure Inputs where
  resetLow : Bool
  nmiFell : Bool
  firqLow : Bool
  irqLow : Bool
  deriving DecidableEq, Repr

/-- No input active. -/
def Inputs.idle : Inputs := ⟨false, false, false, false⟩

/-- The parameter `nmi_arming` (60_exceptions.md R331). -/
inductive NmiArming where
  | anyWriteToS
  | ldsOnly
  deriving DecidableEq, Repr

/-- The parameter `undefined_flag` (92_eei_decisions.md D12). -/
inductive UndefinedFlag where
  | draw
  | unchanged
  deriving DecidableEq, Repr

/-- One access to a device address: the byte the device answered, or the byte written (20_memory.md R62). -/
inductive DeviceAccess where
  | read (addr : Word) (answer : Byte)
  | write (addr : Word) (value : Byte)
  deriving DecidableEq, Repr

/-- The content of RAM and ROM: address and byte, addresses strictly rising, no entry that equals what an unlisted
address reads as (`Memory.wf`, Machine/Memory.lean). -/
abbrev Memory := List Host.Cell

/-- The state of the machine. -/
structure State where
  /-- Accumulator A (10_state.md R21), the high byte of D (R22). -/
  a : Byte
  /-- Accumulator B (10_state.md R21), the low byte of D (R22). -/
  b : Byte
  /-- Index register X (10_state.md R23). -/
  x : Word
  /-- Index register Y (10_state.md R23). -/
  y : Word
  /-- User stack pointer U (10_state.md R24). -/
  u : Word
  /-- System stack pointer S (10_state.md R24). -/
  s : Word
  /-- Program counter (10_state.md R27). -/
  pc : Word
  /-- Direct page register (10_state.md R25). -/
  dp : Byte
  /-- Condition codes, E F H I N Z V C from bit 7 to bit 0 (10_state.md R30). -/
  cc : Byte
  /-- `nmi_armed` (10_state.md R42). -/
  nmiArmed : Bool
  /-- `nmi_pending` (10_state.md R43). -/
  nmiPending : Bool
  /-- `wait_state` (10_state.md R43). -/
  waitState : WaitState
  /-- The content of RAM and ROM (20_memory.md R50). -/
  mem : Memory
  /-- The parameter `mem_map`: the first region that holds an address says its kind; an address in none is RAM
  (00_scope.md R5; assumption log 3). No step changes it. -/
  memMap : List Region
  /-- The parameter `irq_env` from this step on, the next step's inputs first; when it is empty no input is active
  (60_exceptions.md R322; assumption log 6). -/
  irqEnv : List Inputs
  /-- The parameter `nmi_arming` (60_exceptions.md R331; assumption log 7). No step changes it. -/
  nmiArming : NmiArming
  /-- The parameter `undefined_flag` (92_eei_decisions.md D12; assumption log 8). No step changes it. -/
  undefinedFlag : UndefinedFlag
  /-- The MODEL's own: the accesses to device addresses, newest first (20_memory.md R62; assumption log 4). -/
  deviceLog : List DeviceAccess
  /-- The MODEL's own: how many free values have been drawn (00_scope.md R15; assumption log 10). -/
  draws : Nat
  deriving DecidableEq, Repr

/-- The machine right after reset (10_state.md R45, 70_reset_and_hazards.md R362). DP, the masks I and F, the NMI bits and
`wait_state` are the spec's; PC is `MemRead($FFFE, 2)` of a memory in which nothing is listed. A, B, X, Y, U, S and
the other six bits of CC are the model's values (assumption log 1), as are the parameters at their defaults
(assumption log 3, 6, 7, 8) and the model's own fields (4, 10). -/
def State.reset : State where
  a := 0x00#8
  b := 0x00#8
  x := 0x0000#16
  y := 0x0000#16
  u := 0x0000#16
  s := 0x0000#16
  pc := 0x0000#16
  dp := 0x00#8
  cc := 0x50#8
  nmiArmed := false
  nmiPending := false
  waitState := .running
  mem := []
  memMap := []
  irqEnv := []
  nmiArming := .anyWriteToS
  undefinedFlag := .draw
  deviceLog := []
  draws := 0

end Sys2Proof.Machine
end

