-- ==== Sys2Proof/Machine/Memory.lean ====
section
/-! DEFINITION. The content of RAM and ROM as a list in one canonical form (20_memory.md R50). -/

namespace Sys2Proof.Machine

/-- The byte held at an address; an unlisted one holds `Config.unlistedByte` (assumption log 2). -/
def Memory.get : Memory → Nat → Byte
  | [], _ => Config.unlistedByte
  | (b, w) :: m, a => if a = b then w else Memory.get m a

/-- The content with `v` at address `a`. An entry that equals what an unlisted address reads as is left out, so that
equal contents are equal lists. -/
def Memory.put : Memory → Nat → Byte → Memory
  | [], a, v => if v = Config.unlistedByte then [] else [(a, v)]
  | (b, w) :: m, a, v =>
    if a < b then
      if v = Config.unlistedByte then (b, w) :: m else (a, v) :: (b, w) :: m
    else if a = b then
      if v = Config.unlistedByte then m else (a, v) :: m
    else (b, w) :: Memory.put m a v

/-- Every address of the list is at least `lo` and below the 65,536 of the space, the addresses strictly rise, and no
entry equals what an unlisted address reads as. -/
def Memory.wfFrom : Nat → Memory → Bool
  | _, [] => true
  | lo, (a, v) :: m => decide (lo ≤ a) && decide (a < 65536) && decide (v ≠ Config.unlistedByte) && Memory.wfFrom (a + 1) m

/-- The canonical form of `Memory`. -/
def Memory.wf (m : Memory) : Bool := Memory.wfFrom 0 m

end Sys2Proof.Machine
end

