-- ==== Sys2Proof/Machine/Ops.lean ====
section
/-! DEFINITION. The named operations over registers and memory that every meaning is written with: register access,
the bus (20_memory.md R54 to R57), the stacks (00_scope.md R11), undefined flags, the entry of an exception and the
return from one (60_exceptions.md, 49_interrupt_instructions.md), and reset (70_reset_and_hazards.md R361). -/

namespace Sys2Proof.Machine

/-- What a meaning answers. -/
abbrev Result := Host.Outcome State Fault Refusal

/-! ## Registers (10_state.md) -/

/-- `A <- v`. -/
def State.setA (s : State) (v : Byte) : State := { s with a := v }

/-- `B <- v`. -/
def State.setB (s : State) (v : Byte) : State := { s with b := v }

/-- `D`, that is `A ++ B` (10_state.md R22). -/
def State.d (s : State) : Word := joinBytes s.a s.b

/-- `D <- v` writes A and B (10_state.md R22). -/
def State.setD (s : State) (v : Word) : State := { s with a := highByte v, b := lowByte v }

/-- `X <- v`. -/
def State.setX (s : State) (v : Word) : State := { s with x := v }

/-- `Y <- v`. -/
def State.setY (s : State) (v : Word) : State := { s with y := v }

/-- `U <- v`. -/
def State.setU (s : State) (v : Word) : State := { s with u := v }

/-- S written as a side effect, by the stack or by auto increment or decrement: NMI is not armed
(60_exceptions.md R331). -/
def State.setS (s : State) (v : Word) : State := { s with s := v }

/-- `PC <- v`. -/
def State.setPC (s : State) (v : Word) : State := { s with pc := v }

/-- `DP <- v`. -/
def State.setDP (s : State) (v : Byte) : State := { s with dp := v }

/-- `CC <- v`: all eight bits are plain storage (10_state.md R30). -/
def State.setCC (s : State) (v : Byte) : State := { s with cc := v }

/-- `wait_state <- w`. -/
def State.setWait (s : State) (w : WaitState) : State := { s with waitState := w }

/-- A load of S by the program: `S <- v`, and NMI is armed if the instruction counts under `nmi_arming`. LDS counts
under both values, LEAS, TFR, EXG and PULU under `any_write_to_S` (60_exceptions.md R331). -/
def State.loadS (s : State) (isLds : Bool) (v : Word) : State :=
  { s with s := v, nmiArmed := s.nmiArmed || isLds || s.nmiArming == .anyWriteToS }

/-- The base register of an indexed form (30_encoding.md R89). -/
def State.getIndex (s : State) : IndexReg → Word
  | .x => s.x
  | .y => s.y
  | .u => s.u
  | .s => s.s

/-- Auto increment and decrement write the base register; S written so does not arm NMI (60_exceptions.md R331). -/
def State.setIndex (s : State) (r : IndexReg) (v : Word) : State :=
  match r with
  | .x => s.setX v
  | .y => s.setY v
  | .u => s.setU v
  | .s => s.setS v

/-- `reg16[c]` read (30_encoding.md R84); PC is the address of the next instruction (10_state.md R27). -/
def State.getReg16 (s : State) : Reg16 → Word
  | .d => s.d
  | .x => s.x
  | .y => s.y
  | .u => s.u
  | .s => s.s
  | .pc => s.pc

/-- `reg16[c] <- v`; S written by TFR or EXG is a load of S (60_exceptions.md R331). -/
def State.setReg16 (s : State) (r : Reg16) (v : Word) : State :=
  match r with
  | .d => s.setD v
  | .x => s.setX v
  | .y => s.setY v
  | .u => s.setU v
  | .s => s.loadS false v
  | .pc => s.setPC v

/-- `reg8[c]` read (30_encoding.md R84). -/
def State.getReg8 (s : State) : Reg8 → Byte
  | .a => s.a
  | .b => s.b
  | .cc => s.cc
  | .dp => s.dp

/-- `reg8[c] <- v`. -/
def State.setReg8 (s : State) (r : Reg8) (v : Byte) : State :=
  match r with
  | .a => s.setA v
  | .b => s.setB v
  | .cc => s.setCC v
  | .dp => s.setDP v

/-! ## The bus (20_memory.md) -/

/-- The address lies in the region. -/
def Region.holds (r : Region) (a : Word) : Bool := decide (r.first ≤ a) && decide (a ≤ r.last)

/-- What the platform has at an address: the first region that holds it says; RAM where none does (assumption log 3). -/
def kindIn : List Region → Word → MemKind
  | [], _ => .ram
  | r :: rs, a => if r.holds a then r.kind else kindIn rs a

/-- The kind of an address under the state's `mem_map`. -/
def State.kindAt (s : State) (a : Word) : MemKind := kindIn s.memMap a

/-- `MemRead(addr, 1)` (20_memory.md R54): RAM and ROM give their content, a device answers what it likes, an empty
address gives an unspecified byte. It never faults. -/
def State.readByte (s : State) (a : Word) : Byte × State :=
  match s.kindAt a with
  | .ram => (s.mem.get a.toNat, s)
  | .rom => (s.mem.get a.toNat, s)
  | .empty => (Config.freeByte s.draws, { s with draws := s.draws + 1 })
  | .device =>
    let v := Config.deviceAnswer s.draws a
    (v, { s with draws := s.draws + 1, deviceLog := .read a v :: s.deviceLog })

/-- `MemWrite(addr, 1, v)` (20_memory.md R56): RAM stores, ROM and empty addresses ignore, a device takes the byte. It
never faults. -/
def State.writeByte (s : State) (a : Word) (v : Byte) : State :=
  match s.kindAt a with
  | .ram => { s with mem := s.mem.put a.toNat v }
  | .rom => s
  | .empty => s
  | .device => { s with deviceLog := .write a v :: s.deviceLog }

/-- `MemRead(addr, 2)` (20_memory.md R55): the high byte at `addr` first, then the low byte at `addr + 1` modulo 2^16. -/
def State.readWord (s : State) (a : Word) : Word × State :=
  let (h, s) := s.readByte a
  let (l, s) := s.readByte (a + 1#16)
  (joinBytes h l, s)

/-- `MemWrite(addr, 2, v)` (20_memory.md R57): the high byte at `addr` first, then the low byte at `addr + 1`. -/
def State.writeWord (s : State) (a : Word) (v : Word) : State :=
  (s.writeByte a (highByte v)).writeByte (a + 1#16) (lowByte v)

/-! ## Stacks (00_scope.md R11) -/

/-- The stack pointer an instruction uses (41_stack_push_pull.md R140). -/
inductive StackPtr where
  | s | u
  deriving DecidableEq, Repr

/-- The value of a stack pointer. -/
def State.getSP (s : State) : StackPtr → Word
  | .s => s.s
  | .u => s.u

/-- A stack pointer moved by a push or a pull. -/
def State.setSP (s : State) (p : StackPtr) (v : Word) : State :=
  match p with
  | .s => s.setS v
  | .u => s.setU v

/-- `Push8` (00_scope.md R11): decrement, then store. -/
def State.push8 (s : State) (p : StackPtr) (v : Byte) : State :=
  (s.setSP p (s.getSP p - 1#16)).writeByte (s.getSP p - 1#16) v

/-- `Push16` (00_scope.md R11): "on empile d'abord l'octet de poids faible". -/
def State.push16 (s : State) (p : StackPtr) (v : Word) : State :=
  (s.push8 p (lowByte v)).push8 p (highByte v)

/-- `Pull8` (00_scope.md R11): load, then increment. -/
def State.pull8 (s : State) (p : StackPtr) : Byte × State :=
  let (v, s) := s.readByte (s.getSP p)
  (v, s.setSP p (s.getSP p + 1#16))

/-- `Pull16` (00_scope.md R11): the high byte first. -/
def State.pull16 (s : State) (p : StackPtr) : Word × State :=
  let (h, s) := s.pull8 p
  let (l, s) := s.pull8 p
  (joinBytes h l, s)

/-! ## Undefined flags (93_implementation_defined.md U1 to U3) -/

/-- The value a flag takes when an instruction leaves it undefined: a fresh free bit under `undefined_flag = draw`, the
old value under `unchanged` (92_eei_decisions.md D12). -/
def State.undefinedBit (s : State) (fl : Flag) : Bool × State :=
  match s.undefinedFlag with
  | .draw => (Config.freeBit s.draws, { s with draws := s.draws + 1 })
  | .unchanged => (ccGet s.cc fl, s)

/-! ## Taking an exception, returning from one, reset -/

/-- The events with a vector and a frame (60_exceptions.md R320). -/
inductive Event where
  | nmi | firq | irq | swi | swi2 | swi3
  deriving DecidableEq, Repr

/-- The vector of an event (60_exceptions.md R326). -/
def Event.vector : Event → Word
  | .swi3 => 0xFFF2#16
  | .swi2 => 0xFFF4#16
  | .firq => 0xFFF6#16
  | .irq => 0xFFF8#16
  | .swi => 0xFFFA#16
  | .nmi => 0xFFFC#16

/-- Whether the entire state is pushed: FIRQ alone pushes the short frame (60_exceptions.md R320, R328). -/
def Event.entire : Event → Bool
  | .firq => false
  | .nmi | .irq | .swi | .swi2 | .swi3 => true

/-- Whether the entry sets I (60_exceptions.md R320). -/
def Event.masksI : Event → Bool
  | .nmi | .firq | .irq | .swi => true
  | .swi2 | .swi3 => false

/-- Whether the entry sets F (60_exceptions.md R320). -/
def Event.masksF : Event → Bool
  | .nmi | .firq | .swi => true
  | .irq | .swi2 | .swi3 => false

/-- `PushEntire()` (49_interrupt_instructions.md R307): PC, U, Y, X, DP, B, A, CC on S, twelve bytes. -/
def State.pushEntire (s : State) : State :=
  let s := s.push16 .s s.pc
  let s := s.push16 .s s.u
  let s := s.push16 .s s.y
  let s := s.push16 .s s.x
  let s := s.push8 .s s.dp
  let s := s.push8 .s s.b
  let s := s.push8 .s s.a
  s.push8 .s s.cc

/-- The stacking part of an entry: E says which frame, then the frame is pushed (60_exceptions.md R328 to R332). -/
def State.pushFrame (s : State) (ev : Event) : State :=
  let s := s.setCC (ccPut s.cc .e ev.entire)
  if ev.entire then s.pushEntire
  else
    let s := s.push16 .s s.pc
    s.push8 .s s.cc

/-- The masks that the entry of an event sets in CC (60_exceptions.md R320). -/
def Event.maskCC (ev : Event) (cc : Byte) : Byte :=
  let cc := if ev.masksI then ccPut cc .i true else cc
  if ev.masksF then ccPut cc .f true else cc

/-- The vectoring part of an entry: the masks are set, then PC is read from the vector (60_exceptions.md R326). -/
def State.enterVector (s : State) (ev : Event) : State :=
  let s := s.setCC (ev.maskCC s.cc)
  let (target, s) := s.readWord ev.vector
  s.setPC target

/-- Taking an exception: the frame, the masks, the vector (60_exceptions.md R320, R328 to R332,
49_interrupt_instructions.md R304 to R306). -/
def State.takeException (s : State) (ev : Event) : State := (s.pushFrame ev).enterVector ev

/-- Taking an NMI clears the latch (60_exceptions.md R323, R329). -/
def State.acknowledge (s : State) (ev : Event) : State :=
  if ev = .nmi then { s with nmiPending := false } else s

/-- `take_interrupt` (60_exceptions.md R329, R330, R332). -/
def State.takeInterrupt (s : State) (ev : Event) : State :=
  ((s.acknowledge ev).takeException ev).setWait .running

/-- An interrupt that ends a CWAI: nothing is pushed, "because CWAI has pushed the entire frame already"
(60_exceptions.md R334, 49_interrupt_instructions.md R301). -/
def State.releaseCwai (s : State) (ev : Event) : State :=
  ((s.acknowledge ev).enterVector ev).setWait .running

/-- The registers that only an entire frame holds, in the order RTI pulls them (49_interrupt_instructions.md R303). -/
def State.pullEntireRegisters (s : State) : State :=
  let (v, s) := s.pull8 .s
  let s := s.setA v
  let (v, s) := s.pull8 .s
  let s := s.setB v
  let (v, s) := s.pull8 .s
  let s := s.setDP v
  let (v, s) := s.pull16 .s
  let s := s.setX v
  let (v, s) := s.pull16 .s
  let s := s.setY v
  let (v, s) := s.pull16 .s
  s.setU v

/-- The return from an exception: CC, then by the E just pulled the entire state or nothing, then PC
(49_interrupt_instructions.md R303, 60_exceptions.md R336). -/
def State.returnFromException (s : State) : State :=
  let (v, s) := s.pull8 .s
  let s := s.setCC v
  let s := if ccGet s.cc .e then s.pullEntireRegisters else s
  let (v, s) := s.pull16 .s
  s.setPC v

/-- The registers and flags as `take_reset` leaves them, PC apart: the ones the spec leaves `unset` take free values
(70_reset_and_hazards.md R361; assumption log 11). -/
def State.resetRegisters (s : State) : State :=
  let n := s.draws
  { s with
    a := Config.freeByte n
    b := Config.freeByte (n + 1)
    x := Config.freeWord n
    y := Config.freeWord (n + 1)
    u := Config.freeWord (n + 2)
    s := Config.freeWord (n + 3)
    dp := 0x00#8
    cc := ccPut (ccPut (Config.freeByte (n + 2)) .i true) .f true
    nmiArmed := false
    nmiPending := false
    waitState := .running
    draws := n + 4 }

/-- `take_reset` (70_reset_and_hazards.md R361): nothing is pushed, memory is not written, PC comes from $FFFE. -/
def State.takeReset (s : State) : State :=
  let s := s.resetRegisters
  let (target, s) := s.readWord 0xFFFE#16
  s.setPC target

end Sys2Proof.Machine
end

