-- ==== Sys2Proof/Machine/Operands.lean ====
section
/-! DEFINITION. How an instruction obtains its operand (30_encoding.md R82) and the indexed effective address with its
side effects (R88 to R104). PC already holds the address of the next instruction (10_state.md R27). -/

namespace Sys2Proof.Machine

/-- The indirection of an indexed form: the pointer at `ea0` if `ind` (30_encoding.md R100). -/
def State.indirect (s : State) (ind : Bool) (ea0 : Word) : Word × State :=
  if ind then s.readWord ea0 else (ea0, s)

/-- `IndexedEA()` (30_encoding.md R103): the base register's write and the pointer's read included, in that order
(R104). -/
def State.indexedEA (s : State) : Indexed → Word × State
  | .off5 r n => (s.getIndex r + sext5 n, s)
  | .off0 r ind => s.indirect ind (s.getIndex r)
  | .off8 r n ind => s.indirect ind (s.getIndex r + sext8 n)
  | .off16 r n ind => s.indirect ind (s.getIndex r + n)
  | .accA r ind => s.indirect ind (s.getIndex r + sext8 s.a)
  | .accB r ind => s.indirect ind (s.getIndex r + sext8 s.b)
  | .accD r ind => s.indirect ind (s.getIndex r + s.d)
  | .inc1 r => (s.getIndex r, s.setIndex r (s.getIndex r + 1#16))
  | .inc2 r ind => (s.setIndex r (s.getIndex r + 2#16)).indirect ind (s.getIndex r)
  | .dec1 r => (s.getIndex r - 1#16, s.setIndex r (s.getIndex r - 1#16))
  | .dec2 r ind => (s.setIndex r (s.getIndex r - 2#16)).indirect ind (s.getIndex r - 2#16)
  | .pcr8 n ind => s.indirect ind (s.pc + sext8 n)
  | .pcr16 n ind => s.indirect ind (s.pc + n)
  | .extInd addr => s.indirect true addr

/-- `ResolveEA` (30_encoding.md R82): direct takes DP as the high byte (R77), extended is the address itself (R78). -/
def State.resolveEA (s : State) : MemOperand → Word × State
  | .dir off => (joinBytes s.dp off, s)
  | .ext addr => (addr, s)
  | .idx ix => s.indexedEA ix

/-- `Operand8` (30_encoding.md R82). -/
def State.operand8 (s : State) : Operand8 → Byte × State
  | .imm v => (v, s)
  | .mem m =>
    let (ea, s) := s.resolveEA m
    s.readByte ea

/-- `Operand16` (30_encoding.md R82). -/
def State.operand16 (s : State) : Operand16 → Word × State
  | .imm v => (v, s)
  | .mem m =>
    let (ea, s) := s.resolveEA m
    s.readWord ea

end Sys2Proof.Machine
end

