-- ==== Sys2Proof/Machine/Alu.lean ====
section
/-! DEFINITION. The state-level forms of the flag computations, shared by the accumulator and memory forms of the
arithmetic, shift, single-operand and test instructions (files 42 to 46). -/

namespace Sys2Proof.Machine

/-- The two accumulators, `ACCX` (00_scope.md R16). -/
inductive Acc where
  | a | b
  deriving DecidableEq, Repr

/-- The value of an accumulator. -/
def State.getAcc (s : State) : Acc → Byte
  | .a => s.a
  | .b => s.b

/-- An accumulator written. -/
def State.setAcc (s : State) (acc : Acc) (v : Byte) : State :=
  match acc with
  | .a => s.setA v
  | .b => s.setB v

/-- N and Z from an 8-bit value, V cleared (10_state.md R39). -/
def State.setLogicFlags8 (s : State) (v : Byte) : State := s.setCC (logicFlags8 s.cc v)

/-- N and Z from a 16-bit value, V cleared (10_state.md R39). -/
def State.setLogicFlags16 (s : State) (v : Word) : State := s.setCC (logicFlags16 s.cc v)

/-- `ACCX <- Add8(ACCX, M, cin)` (42_arithmetic.md R151, R154). -/
def State.addAcc (s : State) (acc : Acc) (m : Byte) (cin : Bool) : State :=
  (s.setAcc acc (add8 s.cc (s.getAcc acc) m cin).1).setCC (add8 s.cc (s.getAcc acc) m cin).2

/-- `Sub8` with its undefined H drawn: the difference, and the state with the flags (00_scope.md R13). -/
def State.subtract8 (s : State) (v m : Byte) (bin : Bool) : Byte × State :=
  let (h, s) := s.undefinedBit .h
  let (r, cc) := sub8 s.cc v m bin h
  (r, s.setCC cc)

/-- `ACCX <- Sub8(ACCX, M, bin)` (42_arithmetic.md R159, R162). -/
def State.subAcc (s : State) (acc : Acc) (m : Byte) (bin : Bool) : State :=
  let (r, s) := s.subtract8 (s.getAcc acc) m bin
  s.setAcc acc r

/-- The flags of `Sub8(v, M, 0)`, the result discarded (46_test_compare.md R223). -/
def State.compare8 (s : State) (v m : Byte) : State := (s.subtract8 v m false).2

/-- The flags of `Sub16(v, M16)`, the result discarded (46_test_compare.md R225). -/
def State.compare16 (s : State) (v m : Word) : State := s.setCC (sub16 s.cc v m).2

/-- `ACCX <- r` with the flags of the logic instructions (43_logic.md R170). -/
def State.logicAcc (s : State) (acc : Acc) (r : Byte) : State := (s.setAcc acc r).setLogicFlags8 r

/-! ## The single-operand operations: value in, value and state out -/

/-- A function that reads and writes CC alone, with no undefined flag. -/
def State.withFlags (s : State) (f : Byte → Byte → Byte × Byte) (m : Byte) : Byte × State :=
  ((f s.cc m).1, s.setCC (f s.cc m).2)

/-- NEG: `Sub8($00, m, 0)` (45_inc_dec_clr_com_neg_nop.md R213). -/
def State.negValue (s : State) (m : Byte) : Byte × State := s.subtract8 0x00#8 m false

/-- COM (45_inc_dec_clr_com_neg_nop.md R210). -/
def State.comValue (s : State) (m : Byte) : Byte × State := s.withFlags com8 m

/-- DEC (45_inc_dec_clr_com_neg_nop.md R204). -/
def State.decValue (s : State) (m : Byte) : Byte × State := s.withFlags dec8 m

/-- INC (45_inc_dec_clr_com_neg_nop.md R207). -/
def State.incValue (s : State) (m : Byte) : Byte × State := s.withFlags inc8 m

/-- CLR: the old value does not matter (45_inc_dec_clr_com_neg_nop.md R201). -/
def State.clrValue (s : State) (_m : Byte) : Byte × State := (0x00#8, s.setCC (clrFlags s.cc))

/-- LSR (44_shift_rotate.md R182). -/
def State.lsrValue (s : State) (m : Byte) : Byte × State := s.withFlags lsr8 m

/-- ROL (44_shift_rotate.md R182). -/
def State.rolValue (s : State) (m : Byte) : Byte × State := s.withFlags rol8 m

/-- ROR (44_shift_rotate.md R182). -/
def State.rorValue (s : State) (m : Byte) : Byte × State := s.withFlags ror8 m

/-- ASR, with its undefined H drawn (44_shift_rotate.md R182, 93_implementation_defined.md U2). -/
def State.asrValue (s : State) (m : Byte) : Byte × State :=
  let (h, s) := s.undefinedBit .h
  s.withFlags (fun cc v => asr8 cc v h) m

/-- ASL, with its undefined H drawn (44_shift_rotate.md R182, 93_implementation_defined.md U2). -/
def State.aslValue (s : State) (m : Byte) : Byte × State :=
  let (h, s) := s.undefinedBit .h
  s.withFlags (fun cc v => asl8 cc v h) m

/-- A single-operand operation on an accumulator. -/
def State.modifyAcc (s : State) (acc : Acc) (f : State → Byte → Byte × State) : State :=
  let (r, s) := f s (s.getAcc acc)
  s.setAcc acc r

/-- A single-operand operation on a byte of memory: the address, one read, the operation, one write to the same
address (20_memory.md R61). -/
def State.modifyMemory (s : State) (m : MemOperand) (f : State → Byte → Byte × State) : State :=
  let (ea, s) := s.resolveEA m
  let (v, s) := s.readByte ea
  let (r, s) := f s v
  s.writeByte ea r

end Sys2Proof.Machine
end

