-- ==== Sys2Proof/Machine/Arith.lean ====
section
/-! DEFINITION. The arithmetic instructions (42_arithmetic.md). -/

namespace Sys2Proof.Machine

/-- ADDA (42_arithmetic.md R151). -/
def execAdda (op : Operand8) (s : State) : Result :=
  let (m, s) := s.operand8 op
  .next (s.addAcc .a m false)

/-- ADDB (42_arithmetic.md R152). -/
def execAddb (op : Operand8) (s : State) : Result :=
  let (m, s) := s.operand8 op
  .next (s.addAcc .b m false)

/-- ADDD (42_arithmetic.md R153). -/
def execAddd (op : Operand16) (s : State) : Result :=
  let (m, s) := s.operand16 op
  .next ((s.setD (add16 s.cc s.d m).1).setCC (add16 s.cc s.d m).2)

/-- ADCA (42_arithmetic.md R154): "avec retenue". -/
def execAdca (op : Operand8) (s : State) : Result :=
  let (m, s) := s.operand8 op
  .next (s.addAcc .a m (ccGet s.cc .c))

/-- ADCB (42_arithmetic.md R155): "avec retenue". -/
def execAdcb (op : Operand8) (s : State) : Result :=
  let (m, s) := s.operand8 op
  .next (s.addAcc .b m (ccGet s.cc .c))

/-- ABX (42_arithmetic.md R156): B is unsigned, no flag is written. -/
def execAbx (s : State) : Result :=
  .next (s.setX (s.x + zext8 s.b))

/-- DAA (42_arithmetic.md R157); V is undefined (93_implementation_defined.md U3). -/
def execDaa (s : State) : Result :=
  let (v, s) := s.undefinedBit .v
  .next ((s.setA (daa8 s.cc s.a v).1).setCC (daa8 s.cc s.a v).2)

/-- MUL (42_arithmetic.md R158): the product goes to D. -/
def execMul (s : State) : Result :=
  .next ((s.setD (mul8 s.cc s.a s.b).1).setCC (mul8 s.cc s.a s.b).2)

/-- SUBA (42_arithmetic.md R159). -/
def execSuba (op : Operand8) (s : State) : Result :=
  let (m, s) := s.operand8 op
  .next (s.subAcc .a m false)

/-- SUBB (42_arithmetic.md R160). -/
def execSubb (op : Operand8) (s : State) : Result :=
  let (m, s) := s.operand8 op
  .next (s.subAcc .b m false)

/-- SUBD (42_arithmetic.md R161). -/
def execSubd (op : Operand16) (s : State) : Result :=
  let (m, s) := s.operand16 op
  .next ((s.setD (sub16 s.cc s.d m).1).setCC (sub16 s.cc s.d m).2)

/-- SBCA (42_arithmetic.md R162): "avec retenue". -/
def execSbca (op : Operand8) (s : State) : Result :=
  let (m, s) := s.operand8 op
  .next (s.subAcc .a m (ccGet s.cc .c))

/-- SBCB (42_arithmetic.md R163): "avec retenue". -/
def execSbcb (op : Operand8) (s : State) : Result :=
  let (m, s) := s.operand8 op
  .next (s.subAcc .b m (ccGet s.cc .c))

/-- SEX (42_arithmetic.md R164): B is not changed. -/
def execSex (s : State) : Result :=
  .next ((s.setA (sex8 s.cc s.b).1).setCC (sex8 s.cc s.b).2)

end Sys2Proof.Machine
end

