-- ==== Sys2Proof/Machine/Branch.lean ====
section
/-! DEFINITION. The relative branches, short and long (47_branches.md). -/

namespace Sys2Proof.Machine

/-- A branch: `if cond(cc): PC <- PC + rel`, PC being the address of the next instruction (47_branches.md R242, R243). -/
def State.branch (s : State) (c : Cond) (rel : Word) : State :=
  if condHolds s.cc c then s.setPC (s.pc + rel) else s

/-- BRA (47_branches.md R244). -/
def execBra (rel8 : Byte) (s : State) : Result :=
  .next (s.branch .always (sext8 rel8))

/-- BRN (47_branches.md R245). -/
def execBrn (rel8 : Byte) (s : State) : Result :=
  .next (s.branch .never (sext8 rel8))

/-- BHI (47_branches.md R246). -/
def execBhi (rel8 : Byte) (s : State) : Result :=
  .next (s.branch .hi (sext8 rel8))

/-- BLS (47_branches.md R247). -/
def execBls (rel8 : Byte) (s : State) : Result :=
  .next (s.branch .ls (sext8 rel8))

/-- BCC (47_branches.md R248). -/
def execBcc (rel8 : Byte) (s : State) : Result :=
  .next (s.branch .cc (sext8 rel8))

/-- BCS (47_branches.md R249). -/
def execBcs (rel8 : Byte) (s : State) : Result :=
  .next (s.branch .cs (sext8 rel8))

/-- BNE (47_branches.md R250). -/
def execBne (rel8 : Byte) (s : State) : Result :=
  .next (s.branch .ne (sext8 rel8))

/-- BEQ (47_branches.md R251). -/
def execBeq (rel8 : Byte) (s : State) : Result :=
  .next (s.branch .eq (sext8 rel8))

/-- BVC (47_branches.md R252). -/
def execBvc (rel8 : Byte) (s : State) : Result :=
  .next (s.branch .vc (sext8 rel8))

/-- BVS (47_branches.md R253). -/
def execBvs (rel8 : Byte) (s : State) : Result :=
  .next (s.branch .vs (sext8 rel8))

/-- BPL (47_branches.md R254). -/
def execBpl (rel8 : Byte) (s : State) : Result :=
  .next (s.branch .pl (sext8 rel8))

/-- BMI (47_branches.md R255). -/
def execBmi (rel8 : Byte) (s : State) : Result :=
  .next (s.branch .mi (sext8 rel8))

/-- BGE (47_branches.md R256). -/
def execBge (rel8 : Byte) (s : State) : Result :=
  .next (s.branch .ge (sext8 rel8))

/-- BLT (47_branches.md R257). -/
def execBlt (rel8 : Byte) (s : State) : Result :=
  .next (s.branch .lt (sext8 rel8))

/-- BGT (47_branches.md R258). -/
def execBgt (rel8 : Byte) (s : State) : Result :=
  .next (s.branch .gt (sext8 rel8))

/-- BLE (47_branches.md R259). -/
def execBle (rel8 : Byte) (s : State) : Result :=
  .next (s.branch .le (sext8 rel8))

/-- LBRA (47_branches.md R260). -/
def execLbra (rel16 : Word) (s : State) : Result :=
  .next (s.branch .always rel16)

/-- LBRN (47_branches.md R261). -/
def execLbrn (rel16 : Word) (s : State) : Result :=
  .next (s.branch .never rel16)

/-- LBHI (47_branches.md R262). -/
def execLbhi (rel16 : Word) (s : State) : Result :=
  .next (s.branch .hi rel16)

/-- LBLS (47_branches.md R263). -/
def execLbls (rel16 : Word) (s : State) : Result :=
  .next (s.branch .ls rel16)

/-- LBCC (47_branches.md R264). -/
def execLbcc (rel16 : Word) (s : State) : Result :=
  .next (s.branch .cc rel16)

/-- LBCS (47_branches.md R265). -/
def execLbcs (rel16 : Word) (s : State) : Result :=
  .next (s.branch .cs rel16)

/-- LBNE (47_branches.md R266). -/
def execLbne (rel16 : Word) (s : State) : Result :=
  .next (s.branch .ne rel16)

/-- LBEQ (47_branches.md R267). -/
def execLbeq (rel16 : Word) (s : State) : Result :=
  .next (s.branch .eq rel16)

/-- LBVC (47_branches.md R268). -/
def execLbvc (rel16 : Word) (s : State) : Result :=
  .next (s.branch .vc rel16)

/-- LBVS (47_branches.md R269). -/
def execLbvs (rel16 : Word) (s : State) : Result :=
  .next (s.branch .vs rel16)

/-- LBPL (47_branches.md R270). -/
def execLbpl (rel16 : Word) (s : State) : Result :=
  .next (s.branch .pl rel16)

/-- LBMI (47_branches.md R271). -/
def execLbmi (rel16 : Word) (s : State) : Result :=
  .next (s.branch .mi rel16)

/-- LBGE (47_branches.md R272). -/
def execLbge (rel16 : Word) (s : State) : Result :=
  .next (s.branch .ge rel16)

/-- LBLT (47_branches.md R273). -/
def execLblt (rel16 : Word) (s : State) : Result :=
  .next (s.branch .lt rel16)

/-- LBGT (47_branches.md R274). -/
def execLbgt (rel16 : Word) (s : State) : Result :=
  .next (s.branch .gt rel16)

/-- LBLE (47_branches.md R275). -/
def execLble (rel16 : Word) (s : State) : Result :=
  .next (s.branch .le rel16)

end Sys2Proof.Machine
end

