-- ==== Sys2Proof/Machine/Interrupt.lean ====
section
/-! DEFINITION. The interrupt instructions (49_interrupt_instructions.md). -/

namespace Sys2Proof.Machine

/-- CWAI (49_interrupt_instructions.md R301): the masks are cleared, E is set, the entire state is pushed, and the
machine waits. -/
def execCwai (imm8 : Byte) (s : State) : Result :=
  let s := s.setCC (ccPut (s.cc &&& imm8) .e true)
  .next (s.pushEntire.setWait .cwaiWait)

/-- SYNC (49_interrupt_instructions.md R302): nothing is stacked, CC is unchanged. -/
def execSync (s : State) : Result :=
  .next (s.setWait .syncWait)

/-- RTI (49_interrupt_instructions.md R303). -/
def execRti (s : State) : Result :=
  .next s.returnFromException

/-- SWI (49_interrupt_instructions.md R304). -/
def execSwi (s : State) : Result :=
  .next (s.takeException .swi)

/-- SWI2 (49_interrupt_instructions.md R305). -/
def execSwi2 (s : State) : Result :=
  .next (s.takeException .swi2)

/-- SWI3 (49_interrupt_instructions.md R306). -/
def execSwi3 (s : State) : Result :=
  .next (s.takeException .swi3)

end Sys2Proof.Machine
end

