-- ==== Sys2Proof/Machine/Jump.lean ====
section
/-! DEFINITION. Jumps, subroutine call and return, load effective address (48_jumps_subroutines_lea.md). -/

namespace Sys2Proof.Machine

/-- `Push16(S, PC); PC <- target` (48_jumps_subroutines_lea.md R282 to R284). -/
def State.call (s : State) (target : Word) : State := (s.push16 .s s.pc).setPC target

/-- JMP (48_jumps_subroutines_lea.md R281). -/
def execJmp (m : MemOperand) (s : State) : Result :=
  let (ea, s) := s.resolveEA m
  .next (s.setPC ea)

/-- JSR (48_jumps_subroutines_lea.md R282): the address is computed before the push. -/
def execJsr (m : MemOperand) (s : State) : Result :=
  let (ea, s) := s.resolveEA m
  .next (s.call ea)

/-- BSR (48_jumps_subroutines_lea.md R283). -/
def execBsr (rel8 : Byte) (s : State) : Result :=
  .next (s.call (s.pc + sext8 rel8))

/-- LBSR (48_jumps_subroutines_lea.md R284). -/
def execLbsr (rel16 : Word) (s : State) : Result :=
  .next (s.call (s.pc + rel16))

/-- RTS (48_jumps_subroutines_lea.md R285). -/
def execRts (s : State) : Result :=
  let (target, s) := s.pull16 .s
  .next (s.setPC target)

/-- LEAX (48_jumps_subroutines_lea.md R288): Z is the only flag written. -/
def execLeax (ix : Indexed) (s : State) : Result :=
  let (ea, s) := s.indexedEA ix
  .next ((s.setX ea).setCC (ccPut s.cc .z (ea == 0#16)))

/-- LEAY (48_jumps_subroutines_lea.md R289): Z is the only flag written. -/
def execLeay (ix : Indexed) (s : State) : Result :=
  let (ea, s) := s.indexedEA ix
  .next ((s.setY ea).setCC (ccPut s.cc .z (ea == 0#16)))

/-- LEAS (48_jumps_subroutines_lea.md R290): a load of S (60_exceptions.md R331), no flag is written. -/
def execLeas (ix : Indexed) (s : State) : Result :=
  let (ea, s) := s.indexedEA ix
  .next (s.loadS false ea)

/-- LEAU (48_jumps_subroutines_lea.md R291): no flag is written. -/
def execLeau (ix : Indexed) (s : State) : Result :=
  let (ea, s) := s.indexedEA ix
  .next (s.setU ea)

end Sys2Proof.Machine
end

