-- ==== Sys2Proof/Machine/Logic.lean ====
section
/-! DEFINITION. The logic instructions, ANDCC and ORCC (43_logic.md). -/

namespace Sys2Proof.Machine

/-- ANDA (43_logic.md R171). -/
def execAnda (op : Operand8) (s : State) : Result :=
  let (m, s) := s.operand8 op
  .next (s.logicAcc .a (s.a &&& m))

/-- ANDB (43_logic.md R172). -/
def execAndb (op : Operand8) (s : State) : Result :=
  let (m, s) := s.operand8 op
  .next (s.logicAcc .b (s.b &&& m))

/-- EORA (43_logic.md R173). -/
def execEora (op : Operand8) (s : State) : Result :=
  let (m, s) := s.operand8 op
  .next (s.logicAcc .a (s.a ^^^ m))

/-- EORB (43_logic.md R174). -/
def execEorb (op : Operand8) (s : State) : Result :=
  let (m, s) := s.operand8 op
  .next (s.logicAcc .b (s.b ^^^ m))

/-- ORA (43_logic.md R175). -/
def execOra (op : Operand8) (s : State) : Result :=
  let (m, s) := s.operand8 op
  .next (s.logicAcc .a (s.a ||| m))

/-- ORB (43_logic.md R176). -/
def execOrb (op : Operand8) (s : State) : Result :=
  let (m, s) := s.operand8 op
  .next (s.logicAcc .b (s.b ||| m))

/-- ANDCC (43_logic.md R177). -/
def execAndcc (imm8 : Byte) (s : State) : Result :=
  .next (s.setCC (s.cc &&& imm8))

/-- ORCC (43_logic.md R178). -/
def execOrcc (imm8 : Byte) (s : State) : Result :=
  .next (s.setCC (s.cc ||| imm8))

end Sys2Proof.Machine
end

