-- ==== Sys2Proof/Machine/Shift.lean ====
section
/-! DEFINITION. The shifts and rotates (44_shift_rotate.md). -/

namespace Sys2Proof.Machine

/-- ASRA (44_shift_rotate.md R183). -/
def execAsra (s : State) : Result :=
  .next (s.modifyAcc .a State.asrValue)

/-- ASRB (44_shift_rotate.md R184). -/
def execAsrb (s : State) : Result :=
  .next (s.modifyAcc .b State.asrValue)

/-- ASR on memory (44_shift_rotate.md R185). -/
def execAsr (m : MemOperand) (s : State) : Result :=
  .next (s.modifyMemory m State.asrValue)

/-- ASLA (44_shift_rotate.md R186). -/
def execAsla (s : State) : Result :=
  .next (s.modifyAcc .a State.aslValue)

/-- ASLB (44_shift_rotate.md R187). -/
def execAslb (s : State) : Result :=
  .next (s.modifyAcc .b State.aslValue)

/-- ASL on memory (44_shift_rotate.md R188). -/
def execAsl (m : MemOperand) (s : State) : Result :=
  .next (s.modifyMemory m State.aslValue)

/-- LSRA (44_shift_rotate.md R189). -/
def execLsra (s : State) : Result :=
  .next (s.modifyAcc .a State.lsrValue)

/-- LSRB (44_shift_rotate.md R190). -/
def execLsrb (s : State) : Result :=
  .next (s.modifyAcc .b State.lsrValue)

/-- LSR on memory (44_shift_rotate.md R191). -/
def execLsr (m : MemOperand) (s : State) : Result :=
  .next (s.modifyMemory m State.lsrValue)

/-- ROLA (44_shift_rotate.md R192). -/
def execRola (s : State) : Result :=
  .next (s.modifyAcc .a State.rolValue)

/-- ROLB (44_shift_rotate.md R193). -/
def execRolb (s : State) : Result :=
  .next (s.modifyAcc .b State.rolValue)

/-- ROL on memory (44_shift_rotate.md R194). -/
def execRol (m : MemOperand) (s : State) : Result :=
  .next (s.modifyMemory m State.rolValue)

/-- RORA (44_shift_rotate.md R195). -/
def execRora (s : State) : Result :=
  .next (s.modifyAcc .a State.rorValue)

/-- RORB (44_shift_rotate.md R196). -/
def execRorb (s : State) : Result :=
  .next (s.modifyAcc .b State.rorValue)

/-- ROR on memory (44_shift_rotate.md R197). -/
def execRor (m : MemOperand) (s : State) : Result :=
  .next (s.modifyMemory m State.rorValue)

end Sys2Proof.Machine
end

