-- ==== Sys2Proof/Machine/Stack.lean ====
section
/-! DEFINITION. PSHS, PSHU, PULS, PULU (41_stack_push_pull.md). -/

namespace Sys2Proof.Machine

/-- The other stack pointer, which bit 6 of the postbyte names (30_encoding.md R85). -/
def State.getOtherSP (s : State) : StackPtr → Word
  | .s => s.u
  | .u => s.s

/-- The other stack pointer pulled: PULU with the S bit is a load of S (41_stack_push_pull.md R146, 60_exceptions.md R331). -/
def State.setOtherSP (s : State) (p : StackPtr) (v : Word) : State :=
  match p with
  | .s => s.setU v
  | .u => s.loadS false v

/-- `if selected: Push8(SP, v)`. -/
def State.push8If (s : State) (selected : Bool) (p : StackPtr) (v : Byte) : State :=
  if selected then s.push8 p v else s

/-- `if selected: Push16(SP, v)`. -/
def State.push16If (s : State) (selected : Bool) (p : StackPtr) (v : Word) : State :=
  if selected then s.push16 p v else s

/-- `if selected: reg <- Pull8(SP)`. -/
def State.pull8If (s : State) (selected : Bool) (p : StackPtr) (set : State → Byte → State) : State :=
  if selected then set (s.pull8 p).2 (s.pull8 p).1 else s

/-- `if selected: reg <- Pull16(SP)`. -/
def State.pull16If (s : State) (selected : Bool) (p : StackPtr) (set : State → Word → State) : State :=
  if selected then set (s.pull16 p).2 (s.pull16 p).1 else s

/-- The pushes of a postbyte, from bit 7 down to bit 0 (41_stack_push_pull.md R142, R143, R144). -/
def State.pushRegisters (s : State) (p : StackPtr) (pb : Byte) : State :=
  let s := s.push16If (pb.getLsbD 7) p s.pc
  let s := s.push16If (pb.getLsbD 6) p (s.getOtherSP p)
  let s := s.push16If (pb.getLsbD 5) p s.y
  let s := s.push16If (pb.getLsbD 4) p s.x
  let s := s.push8If (pb.getLsbD 3) p s.dp
  let s := s.push8If (pb.getLsbD 2) p s.b
  let s := s.push8If (pb.getLsbD 1) p s.a
  s.push8If (pb.getLsbD 0) p s.cc

/-- The pulls of a postbyte, from bit 0 up to bit 7 (41_stack_push_pull.md R142, R145, R146). -/
def State.pullRegisters (s : State) (p : StackPtr) (pb : Byte) : State :=
  let s := s.pull8If (pb.getLsbD 0) p State.setCC
  let s := s.pull8If (pb.getLsbD 1) p State.setA
  let s := s.pull8If (pb.getLsbD 2) p State.setB
  let s := s.pull8If (pb.getLsbD 3) p State.setDP
  let s := s.pull16If (pb.getLsbD 4) p State.setX
  let s := s.pull16If (pb.getLsbD 5) p State.setY
  let s := s.pull16If (pb.getLsbD 6) p (fun s v => s.setOtherSP p v)
  s.pull16If (pb.getLsbD 7) p State.setPC

/-- PSHS (41_stack_push_pull.md R143). -/
def execPshs (pb : Byte) (s : State) : Result :=
  .next (s.pushRegisters .s pb)

/-- PSHU (41_stack_push_pull.md R144). -/
def execPshu (pb : Byte) (s : State) : Result :=
  .next (s.pushRegisters .u pb)

/-- PULS (41_stack_push_pull.md R145). -/
def execPuls (pb : Byte) (s : State) : Result :=
  .next (s.pullRegisters .s pb)

/-- PULU (41_stack_push_pull.md R146). -/
def execPulu (pb : Byte) (s : State) : Result :=
  .next (s.pullRegisters .u pb)

end Sys2Proof.Machine
end

