-- ==== Sys2Proof/Machine/Test.lean ====
section
/-! DEFINITION. Bit tests, compares and tests (46_test_compare.md). -/

namespace Sys2Proof.Machine

/-- BITA (46_test_compare.md R221): the AND is discarded. -/
def execBita (op : Operand8) (s : State) : Result :=
  let (m, s) := s.operand8 op
  .next (s.setLogicFlags8 (s.a &&& m))

/-- BITB (46_test_compare.md R222): the AND is discarded. -/
def execBitb (op : Operand8) (s : State) : Result :=
  let (m, s) := s.operand8 op
  .next (s.setLogicFlags8 (s.b &&& m))

/-- CMPA (46_test_compare.md R223). -/
def execCmpa (op : Operand8) (s : State) : Result :=
  let (m, s) := s.operand8 op
  .next (s.compare8 s.a m)

/-- CMPB (46_test_compare.md R224). -/
def execCmpb (op : Operand8) (s : State) : Result :=
  let (m, s) := s.operand8 op
  .next (s.compare8 s.b m)

/-- CMPD (46_test_compare.md R225). -/
def execCmpd (op : Operand16) (s : State) : Result :=
  let (m, s) := s.operand16 op
  .next (s.compare16 s.d m)

/-- CMPX (46_test_compare.md R226). -/
def execCmpx (op : Operand16) (s : State) : Result :=
  let (m, s) := s.operand16 op
  .next (s.compare16 s.x m)

/-- CMPY (46_test_compare.md R227). -/
def execCmpy (op : Operand16) (s : State) : Result :=
  let (m, s) := s.operand16 op
  .next (s.compare16 s.y m)

/-- CMPU (46_test_compare.md R228). -/
def execCmpu (op : Operand16) (s : State) : Result :=
  let (m, s) := s.operand16 op
  .next (s.compare16 s.u m)

/-- CMPS (46_test_compare.md R229). -/
def execCmps (op : Operand16) (s : State) : Result :=
  let (m, s) := s.operand16 op
  .next (s.compare16 s.s m)

/-- TSTA (46_test_compare.md R230). -/
def execTsta (s : State) : Result :=
  .next (s.setLogicFlags8 s.a)

/-- TSTB (46_test_compare.md R231). -/
def execTstb (s : State) : Result :=
  .next (s.setLogicFlags8 s.b)

/-- TST on memory (46_test_compare.md R232): one read, no write. -/
def execTst (m : MemOperand) (s : State) : Result :=
  let (ea, s) := s.resolveEA m
  let (v, s) := s.readByte ea
  .next (s.setLogicFlags8 v)

end Sys2Proof.Machine
end

