-- ==== Sys2Proof/Machine/Transfer.lean ====
section
/-! DEFINITION. EXG, TFR, the loads and the stores (40_data_transfer.md). -/

namespace Sys2Proof.Machine

/-- A store of 8 bits with its flags (40_data_transfer.md R131). -/
def State.store8 (s : State) (ea : Word) (v : Byte) : State := (s.writeByte ea v).setLogicFlags8 v

/-- A store of 16 bits with its flags (40_data_transfer.md R131). -/
def State.store16 (s : State) (ea v : Word) : State := (s.writeWord ea v).setLogicFlags16 v

/-- EXG (40_data_transfer.md R121): both registers are read before either is written; EXG with S as either register
is a load of S (60_exceptions.md R331). -/
def execExg (r1 r2 : Reg) (s : State) : Result :=
  match r1, r2 with
  | .r16 p, .r16 q => .next ((s.setReg16 p (s.getReg16 q)).setReg16 q (s.getReg16 p))
  | .r8 p, .r8 q => .next ((s.setReg8 p (s.getReg8 q)).setReg8 q (s.getReg8 p))
  | .r16 _, .r8 _ => .refused .illegalRegisterPostbyte
  | .r8 _, .r16 _ => .refused .illegalRegisterPostbyte

/-- TFR (40_data_transfer.md R122): `r1` into `r2`. -/
def execTfr (r1 r2 : Reg) (s : State) : Result :=
  match r1, r2 with
  | .r16 p, .r16 q => .next (s.setReg16 q (s.getReg16 p))
  | .r8 p, .r8 q => .next (s.setReg8 q (s.getReg8 p))
  | .r16 _, .r8 _ => .refused .illegalRegisterPostbyte
  | .r8 _, .r16 _ => .refused .illegalRegisterPostbyte

/-- LDA (40_data_transfer.md R124). -/
def execLda (op : Operand8) (s : State) : Result :=
  let (m, s) := s.operand8 op
  .next ((s.setA m).setLogicFlags8 m)

/-- LDB (40_data_transfer.md R125). -/
def execLdb (op : Operand8) (s : State) : Result :=
  let (m, s) := s.operand8 op
  .next ((s.setB m).setLogicFlags8 m)

/-- LDD (40_data_transfer.md R126). -/
def execLdd (op : Operand16) (s : State) : Result :=
  let (m, s) := s.operand16 op
  .next ((s.setD m).setLogicFlags16 m)

/-- LDX (40_data_transfer.md R127). -/
def execLdx (op : Operand16) (s : State) : Result :=
  let (m, s) := s.operand16 op
  .next ((s.setX m).setLogicFlags16 m)

/-- LDY (40_data_transfer.md R128). -/
def execLdy (op : Operand16) (s : State) : Result :=
  let (m, s) := s.operand16 op
  .next ((s.setY m).setLogicFlags16 m)

/-- LDU (40_data_transfer.md R129). -/
def execLdu (op : Operand16) (s : State) : Result :=
  let (m, s) := s.operand16 op
  .next ((s.setU m).setLogicFlags16 m)

/-- LDS (40_data_transfer.md R130): the load arms NMI (60_exceptions.md R331). -/
def execLds (op : Operand16) (s : State) : Result :=
  let (m, s) := s.operand16 op
  .next ((s.loadS true m).setLogicFlags16 m)

/-- STA (40_data_transfer.md R132): the address first, its side effects included (30_encoding.md R104). -/
def execSta (m : MemOperand) (s : State) : Result :=
  let (ea, s) := s.resolveEA m
  .next (s.store8 ea s.a)

/-- STB (40_data_transfer.md R133): the address first, its side effects included (30_encoding.md R104). -/
def execStb (m : MemOperand) (s : State) : Result :=
  let (ea, s) := s.resolveEA m
  .next (s.store8 ea s.b)

/-- STD (40_data_transfer.md R134): the address first, its side effects included (30_encoding.md R104). -/
def execStd (m : MemOperand) (s : State) : Result :=
  let (ea, s) := s.resolveEA m
  .next (s.store16 ea s.d)

/-- STX (40_data_transfer.md R135): the address first, its side effects included (30_encoding.md R104). -/
def execStx (m : MemOperand) (s : State) : Result :=
  let (ea, s) := s.resolveEA m
  .next (s.store16 ea s.x)

/-- STY (40_data_transfer.md R136): the address first, its side effects included (30_encoding.md R104). -/
def execSty (m : MemOperand) (s : State) : Result :=
  let (ea, s) := s.resolveEA m
  .next (s.store16 ea s.y)

/-- STU (40_data_transfer.md R137): the address first, its side effects included (30_encoding.md R104). -/
def execStu (m : MemOperand) (s : State) : Result :=
  let (ea, s) := s.resolveEA m
  .next (s.store16 ea s.u)

/-- STS (40_data_transfer.md R138): the address first, its side effects included (30_encoding.md R104). -/
def execSts (m : MemOperand) (s : State) : Result :=
  let (ea, s) := s.resolveEA m
  .next (s.store16 ea s.s)

end Sys2Proof.Machine
end

