-- ==== Sys2Proof/Machine/Unary.lean ====
section
/-! DEFINITION. CLR, DEC, INC, COM, NEG and NOP (45_inc_dec_clr_com_neg_nop.md). -/

namespace Sys2Proof.Machine

/-- CLRA (45_inc_dec_clr_com_neg_nop.md R201). -/
def execClra (s : State) : Result :=
  .next (s.modifyAcc .a State.clrValue)

/-- CLRB (45_inc_dec_clr_com_neg_nop.md R202). -/
def execClrb (s : State) : Result :=
  .next (s.modifyAcc .b State.clrValue)

/-- CLR on memory (45_inc_dec_clr_com_neg_nop.md R203). -/
def execClr (m : MemOperand) (s : State) : Result :=
  .next (s.modifyMemory m State.clrValue)

/-- DECA (45_inc_dec_clr_com_neg_nop.md R204). -/
def execDeca (s : State) : Result :=
  .next (s.modifyAcc .a State.decValue)

/-- DECB (45_inc_dec_clr_com_neg_nop.md R205). -/
def execDecb (s : State) : Result :=
  .next (s.modifyAcc .b State.decValue)

/-- DEC on memory (45_inc_dec_clr_com_neg_nop.md R206). -/
def execDec (m : MemOperand) (s : State) : Result :=
  .next (s.modifyMemory m State.decValue)

/-- INCA (45_inc_dec_clr_com_neg_nop.md R207). -/
def execInca (s : State) : Result :=
  .next (s.modifyAcc .a State.incValue)

/-- INCB (45_inc_dec_clr_com_neg_nop.md R208). -/
def execIncb (s : State) : Result :=
  .next (s.modifyAcc .b State.incValue)

/-- INC on memory (45_inc_dec_clr_com_neg_nop.md R209). -/
def execInc (m : MemOperand) (s : State) : Result :=
  .next (s.modifyMemory m State.incValue)

/-- COMA (45_inc_dec_clr_com_neg_nop.md R210). -/
def execComa (s : State) : Result :=
  .next (s.modifyAcc .a State.comValue)

/-- COMB (45_inc_dec_clr_com_neg_nop.md R211). -/
def execComb (s : State) : Result :=
  .next (s.modifyAcc .b State.comValue)

/-- COM on memory (45_inc_dec_clr_com_neg_nop.md R212). -/
def execCom (m : MemOperand) (s : State) : Result :=
  .next (s.modifyMemory m State.comValue)

/-- NEGA (45_inc_dec_clr_com_neg_nop.md R213). -/
def execNega (s : State) : Result :=
  .next (s.modifyAcc .a State.negValue)

/-- NEGB (45_inc_dec_clr_com_neg_nop.md R214). -/
def execNegb (s : State) : Result :=
  .next (s.modifyAcc .b State.negValue)

/-- NEG on memory (45_inc_dec_clr_com_neg_nop.md R215). -/
def execNeg (m : MemOperand) (s : State) : Result :=
  .next (s.modifyMemory m State.negValue)

/-- NOP (45_inc_dec_clr_com_neg_nop.md R216): nothing beyond the fetch, which advanced PC. -/
def execNop (s : State) : Result :=
  .next s

end Sys2Proof.Machine
end

