-- ==== Sys2Proof/Machine/Dispatch.lean ====
section
/-! DEFINITION. One arm per instruction: its meaning. -/

namespace Sys2Proof.Machine

/-- What an instruction does. PC already holds the address of the next instruction (10_state.md R27). -/
def exec (i : Instr) (s : State) : Host.Outcome State Fault Refusal :=
  match i with
  -- Transfer (40_data_transfer.md)
  | .exg r1 r2 => Sys2Proof.Machine.execExg r1 r2 s
  | .tfr r1 r2 => Sys2Proof.Machine.execTfr r1 r2 s
  | .lda op => Sys2Proof.Machine.execLda op s
  | .ldb op => Sys2Proof.Machine.execLdb op s
  | .ldd op => Sys2Proof.Machine.execLdd op s
  | .ldx op => Sys2Proof.Machine.execLdx op s
  | .ldy op => Sys2Proof.Machine.execLdy op s
  | .ldu op => Sys2Proof.Machine.execLdu op s
  | .lds op => Sys2Proof.Machine.execLds op s
  | .sta m => Sys2Proof.Machine.execSta m s
  | .stb m => Sys2Proof.Machine.execStb m s
  | .std m => Sys2Proof.Machine.execStd m s
  | .stx m => Sys2Proof.Machine.execStx m s
  | .sty m => Sys2Proof.Machine.execSty m s
  | .stu m => Sys2Proof.Machine.execStu m s
  | .sts m => Sys2Proof.Machine.execSts m s
  -- Stack (41_stack_push_pull.md)
  | .pshs pb => Sys2Proof.Machine.execPshs pb s
  | .pshu pb => Sys2Proof.Machine.execPshu pb s
  | .puls pb => Sys2Proof.Machine.execPuls pb s
  | .pulu pb => Sys2Proof.Machine.execPulu pb s
  -- Arithmetic (42_arithmetic.md)
  | .adda op => Sys2Proof.Machine.execAdda op s
  | .addb op => Sys2Proof.Machine.execAddb op s
  | .addd op => Sys2Proof.Machine.execAddd op s
  | .adca op => Sys2Proof.Machine.execAdca op s
  | .adcb op => Sys2Proof.Machine.execAdcb op s
  | .abx => Sys2Proof.Machine.execAbx s
  | .daa => Sys2Proof.Machine.execDaa s
  | .mul => Sys2Proof.Machine.execMul s
  | .suba op => Sys2Proof.Machine.execSuba op s
  | .subb op => Sys2Proof.Machine.execSubb op s
  | .subd op => Sys2Proof.Machine.execSubd op s
  | .sbca op => Sys2Proof.Machine.execSbca op s
  | .sbcb op => Sys2Proof.Machine.execSbcb op s
  | .sex => Sys2Proof.Machine.execSex s
  -- Logic (43_logic.md)
  | .anda op => Sys2Proof.Machine.execAnda op s
  | .andb op => Sys2Proof.Machine.execAndb op s
  | .eora op => Sys2Proof.Machine.execEora op s
  | .eorb op => Sys2Proof.Machine.execEorb op s
  | .ora op => Sys2Proof.Machine.execOra op s
  | .orb op => Sys2Proof.Machine.execOrb op s
  | .andcc imm8 => Sys2Proof.Machine.execAndcc imm8 s
  | .orcc imm8 => Sys2Proof.Machine.execOrcc imm8 s
  -- Shift and rotate (44_shift_rotate.md)
  | .asra => Sys2Proof.Machine.execAsra s
  | .asrb => Sys2Proof.Machine.execAsrb s
  | .asr m => Sys2Proof.Machine.execAsr m s
  | .asla => Sys2Proof.Machine.execAsla s
  | .aslb => Sys2Proof.Machine.execAslb s
  | .asl m => Sys2Proof.Machine.execAsl m s
  | .lsra => Sys2Proof.Machine.execLsra s
  | .lsrb => Sys2Proof.Machine.execLsrb s
  | .lsr m => Sys2Proof.Machine.execLsr m s
  | .rola => Sys2Proof.Machine.execRola s
  | .rolb => Sys2Proof.Machine.execRolb s
  | .rol m => Sys2Proof.Machine.execRol m s
  | .rora => Sys2Proof.Machine.execRora s
  | .rorb => Sys2Proof.Machine.execRorb s
  | .ror m => Sys2Proof.Machine.execRor m s
  -- Clear, decrement, increment, complement, negate, NOP (45_inc_dec_clr_com_neg_nop.md)
  | .clra => Sys2Proof.Machine.execClra s
  | .clrb => Sys2Proof.Machine.execClrb s
  | .clr m => Sys2Proof.Machine.execClr m s
  | .deca => Sys2Proof.Machine.execDeca s
  | .decb => Sys2Proof.Machine.execDecb s
  | .dec m => Sys2Proof.Machine.execDec m s
  | .inca => Sys2Proof.Machine.execInca s
  | .incb => Sys2Proof.Machine.execIncb s
  | .inc m => Sys2Proof.Machine.execInc m s
  | .coma => Sys2Proof.Machine.execComa s
  | .comb => Sys2Proof.Machine.execComb s
  | .com m => Sys2Proof.Machine.execCom m s
  | .nega => Sys2Proof.Machine.execNega s
  | .negb => Sys2Proof.Machine.execNegb s
  | .neg m => Sys2Proof.Machine.execNeg m s
  | .nop => Sys2Proof.Machine.execNop s
  -- Test and compare (46_test_compare.md)
  | .bita op => Sys2Proof.Machine.execBita op s
  | .bitb op => Sys2Proof.Machine.execBitb op s
  | .cmpa op => Sys2Proof.Machine.execCmpa op s
  | .cmpb op => Sys2Proof.Machine.execCmpb op s
  | .cmpd op => Sys2Proof.Machine.execCmpd op s
  | .cmpx op => Sys2Proof.Machine.execCmpx op s
  | .cmpy op => Sys2Proof.Machine.execCmpy op s
  | .cmpu op => Sys2Proof.Machine.execCmpu op s
  | .cmps op => Sys2Proof.Machine.execCmps op s
  | .tsta => Sys2Proof.Machine.execTsta s
  | .tstb => Sys2Proof.Machine.execTstb s
  | .tst m => Sys2Proof.Machine.execTst m s
  -- Branches (47_branches.md)
  | .bra rel8 => Sys2Proof.Machine.execBra rel8 s
  | .brn rel8 => Sys2Proof.Machine.execBrn rel8 s
  | .bhi rel8 => Sys2Proof.Machine.execBhi rel8 s
  | .bls rel8 => Sys2Proof.Machine.execBls rel8 s
  | .bcc rel8 => Sys2Proof.Machine.execBcc rel8 s
  | .bcs rel8 => Sys2Proof.Machine.execBcs rel8 s
  | .bne rel8 => Sys2Proof.Machine.execBne rel8 s
  | .beq rel8 => Sys2Proof.Machine.execBeq rel8 s
  | .bvc rel8 => Sys2Proof.Machine.execBvc rel8 s
  | .bvs rel8 => Sys2Proof.Machine.execBvs rel8 s
  | .bpl rel8 => Sys2Proof.Machine.execBpl rel8 s
  | .bmi rel8 => Sys2Proof.Machine.execBmi rel8 s
  | .bge rel8 => Sys2Proof.Machine.execBge rel8 s
  | .blt rel8 => Sys2Proof.Machine.execBlt rel8 s
  | .bgt rel8 => Sys2Proof.Machine.execBgt rel8 s
  | .ble rel8 => Sys2Proof.Machine.execBle rel8 s
  | .lbra rel16 => Sys2Proof.Machine.execLbra rel16 s
  | .lbrn rel16 => Sys2Proof.Machine.execLbrn rel16 s
  | .lbhi rel16 => Sys2Proof.Machine.execLbhi rel16 s
  | .lbls rel16 => Sys2Proof.Machine.execLbls rel16 s
  | .lbcc rel16 => Sys2Proof.Machine.execLbcc rel16 s
  | .lbcs rel16 => Sys2Proof.Machine.execLbcs rel16 s
  | .lbne rel16 => Sys2Proof.Machine.execLbne rel16 s
  | .lbeq rel16 => Sys2Proof.Machine.execLbeq rel16 s
  | .lbvc rel16 => Sys2Proof.Machine.execLbvc rel16 s
  | .lbvs rel16 => Sys2Proof.Machine.execLbvs rel16 s
  | .lbpl rel16 => Sys2Proof.Machine.execLbpl rel16 s
  | .lbmi rel16 => Sys2Proof.Machine.execLbmi rel16 s
  | .lbge rel16 => Sys2Proof.Machine.execLbge rel16 s
  | .lblt rel16 => Sys2Proof.Machine.execLblt rel16 s
  | .lbgt rel16 => Sys2Proof.Machine.execLbgt rel16 s
  | .lble rel16 => Sys2Proof.Machine.execLble rel16 s
  -- Jumps, subroutines, LEA (48_jumps_subroutines_lea.md)
  | .jmp m => Sys2Proof.Machine.execJmp m s
  | .jsr m => Sys2Proof.Machine.execJsr m s
  | .bsr rel8 => Sys2Proof.Machine.execBsr rel8 s
  | .lbsr rel16 => Sys2Proof.Machine.execLbsr rel16 s
  | .rts => Sys2Proof.Machine.execRts s
  | .leax ix => Sys2Proof.Machine.execLeax ix s
  | .leay ix => Sys2Proof.Machine.execLeay ix s
  | .leas ix => Sys2Proof.Machine.execLeas ix s
  | .leau ix => Sys2Proof.Machine.execLeau ix s
  -- Interrupt instructions (49_interrupt_instructions.md)
  | .cwai imm8 => Sys2Proof.Machine.execCwai imm8 s
  | .sync => Sys2Proof.Machine.execSync s
  | .rti => Sys2Proof.Machine.execRti s
  | .swi => Sys2Proof.Machine.execSwi s
  | .swi2 => Sys2Proof.Machine.execSwi2 s
  | .swi3 => Sys2Proof.Machine.execSwi3 s

end Sys2Proof.Machine
end

