-- ==== Sys2Proof/Machine/Fetch.lean ====
section
/-! DEFINITION. Fetching an instruction's bytes and executing it (30_encoding.md R71, 10_state.md R27), and placing an
instruction where the next step fetches it. -/

namespace Sys2Proof.Machine

/-- `Fetch8` (00_scope.md R10): the byte at PC, an ordinary read, and PC one further. -/
def State.fetchByte (s : State) : Byte × State :=
  let (v, s) := s.readByte s.pc
  (v, s.setPC (s.pc + 1#16))

/-- Reads instruction bytes in ascending order until the instruction is whole, at most `n` more of them; `bs` are those
already read (30_encoding.md R71, R74). -/
def State.fetchMore (s : State) : Nat → List Byte → List Byte × State
  | 0, bs => (bs, s)
  | n + 1, bs =>
    if bs.length < bytesNeeded bs then
      let (v, s) := s.fetchByte
      s.fetchMore n (bs ++ [v])
    else (bs, s)

/-- The bytes of the instruction at PC; PC is then the address of the next instruction (10_state.md R27). -/
def State.fetch (s : State) : List Byte × State := s.fetchMore maxInstrBytes []

/-- The refusal of bytes that are no instruction (00_scope.md R14). -/
def refusalOf : DecodeError → Refusal
  | .illegalOpcode => .illegalOpcode
  | .illegalIndexedPostbyte => .illegalIndexedPostbyte
  | .illegalRegisterPostbyte => .illegalRegisterPostbyte
  | .truncated => .truncatedInstruction

/-- Executes the instruction at PC (60_exceptions.md R333). -/
def State.executeAtPC (s : State) : Result :=
  let (bs, s) := s.fetch
  match decode bs with
  | .ok (i, _) => exec i s
  | .error e => .refused (refusalOf e)

/-! ## Placing an instruction -/

/-- A byte placed in memory from outside the machine: the content of RAM or ROM, and where the map has neither, the
address becomes RAM. -/
def State.placeByte (s : State) (a : Word) (v : Byte) : State :=
  match s.kindAt a with
  | .ram | .rom => { s with mem := s.mem.put a.toNat v }
  | .device | .empty => { s with mem := s.mem.put a.toNat v, memMap := ⟨a, a, .ram⟩ :: s.memMap }

/-- Bytes placed at ascending addresses. -/
def State.placeBytes (s : State) : Word → List Byte → State
  | _, [] => s
  | a, v :: vs => (s.placeByte a v).placeBytes (a + 1#16) vs

/-- The state in which the next step fetches an instruction: it waits for nothing, and that step sees no input active
and no latched NMI. -/
def State.readyToFetch (s : State) : State :=
  { s with
    nmiPending := false
    waitState := .running
    irqEnv := match s.irqEnv with
      | [] => []
      | _ :: rest => .idle :: rest }

end Sys2Proof.Machine
end

