-- ==== Sys2Proof/Machine/Boundary.lean ====
section
/-! DEFINITION. The boundary rule: what one step of the machine does with its inputs (60_exceptions.md R333, R334). -/

namespace Sys2Proof.Machine

/-- The facts that `irq_env` gives at this step (60_exceptions.md R322). -/
def State.inputs (s : State) : Inputs :=
  match s.irqEnv with
  | [] => .idle
  | i :: _ => i

/-- This step's inputs are used up; the next step sees the next ones. -/
def State.tickInputs (s : State) : State := { s with irqEnv := s.irqEnv.tail }

/-- The latch of NMI: a falling edge sets it if NMI is armed (60_exceptions.md R323, R331, R333). -/
def State.latchNmi (s : State) (inp : Inputs) : State :=
  if inp.nmiFell && s.nmiArmed then { s with nmiPending := true } else s

/-- The interrupt taken at a boundary: NMI, then FIRQ, then IRQ, the masks read from CC as it stands
(60_exceptions.md R325, R327, R333). -/
def State.pendingInterrupt (s : State) (inp : Inputs) : Option Event :=
  if s.nmiPending then some .nmi
  else if inp.firqLow && !ccGet s.cc .f then some .firq
  else if inp.irqLow && !ccGet s.cc .i then some .irq
  else none

/-- A step of the running machine: take an interrupt or execute the instruction at PC (60_exceptions.md R333). -/
def State.runningStep (s : State) (inp : Inputs) : Result :=
  match s.pendingInterrupt inp with
  | some ev => .next (s.takeInterrupt ev)
  | none => s.executeAtPC

/-- A step spent in SYNC: any of the three lines, masked or not, ends the wait, and then the step is one of the running
machine (60_exceptions.md R334, 49_interrupt_instructions.md R302). -/
def State.syncStep (s : State) (inp : Inputs) : Result :=
  if s.nmiPending || inp.firqLow || inp.irqLow then (s.setWait .running).runningStep inp else .next s

/-- A step spent in CWAI: only an interrupt that is enabled ends the wait (60_exceptions.md R334,
49_interrupt_instructions.md R301). -/
def State.cwaiStep (s : State) (inp : Inputs) : Result :=
  match s.pendingInterrupt inp with
  | some ev => .next (s.releaseCwai ev)
  | none => .next s

/-- `Step()` with its inputs already taken from `irq_env` (60_exceptions.md R333). -/
def State.stepWith (s : State) (inp : Inputs) : Result :=
  if inp.resetLow then .next s.takeReset
  else
    let s := s.latchNmi inp
    match s.waitState with
    | .running => s.runningStep inp
    | .syncWait => s.syncStep inp
    | .cwaiWait => s.cwaiStep inp

end Sys2Proof.Machine
end

