-- ==== Sys2Proof/Machine/Step.lean ====
section
/-! DEFINITION. One step of the machine, and an instruction placed where the next step fetches. -/

namespace Sys2Proof.Machine

/-- One step: one instruction, one interrupt or reset, or one step of waiting (00_scope.md R19, 60_exceptions.md R333). -/
def step (s : State) : Host.Outcome State Fault Refusal := s.tickInputs.stepWith s.inputs

/-- The state with an instruction of spec/opcode_table.json stored at PC, zeros after it up to the longest
instruction, ready to be fetched by the very next step. It stands for a program loaded from outside the machine
(assumption log 19). -/
def State.withFetchWord (s : State) (nbits w : Nat) : State :=
  s.readyToFetch.placeBytes s.pc (paddedTableBytes nbits w)

end Sys2Proof.Machine
end

