-- ==== Sys2Proof/Safety.lean ====
section
/-! DEFINITION. What counts as a safe run, the invariant of the machine, and the ends of a run (92_eei_decisions.md D26). -/

namespace Sys2Proof.Machine

/-- The step has a defined outcome: it is not refused. -/
def State.completes (s : State) : Bool :=
  match step s with
  | .next _ => true
  | .fault _ => false
  | .refused _ => false

/-- What every step keeps: memory is in its canonical form, and the NMI latch is set only while NMI is armed
(10_state.md R42, R43). -/
def State.Inv (s : State) : Prop := s.mem.wf = true ∧ (s.nmiPending = true → s.nmiArmed = true)

/-- The end of a run "PC reaches a given address" (92_eei_decisions.md D26). -/
def endsAtPC (a : Word) (s : State) : Bool := s.pc == a

/-- The end of a run "a `BRA *` at PC with interrupts masked" (92_eei_decisions.md D26). -/
def endsAtSelfBranch (s : State) : Bool :=
  s.mem.get s.pc.toNat == 0x20#8 && s.mem.get (s.pc + 1#16).toNat == 0xFE#8 && ccGet s.cc .i && ccGet s.cc .f

/-- The end of a run "a wait state that `irq_env` never releases" (92_eei_decisions.md D26): no further input is active
and nothing is latched. -/
def endsWaiting (s : State) : Bool :=
  s.waitState != .running && s.irqEnv.all (· == .idle) && !s.nmiPending

/-- A run of at most `n` steps that stops where `finished` (the parameter `end_of_run`) says so, or at a refusal. -/
def runUntil (finished : State → Bool) : Nat → State → Result
  | 0, s => .next s
  | n + 1, s =>
    if finished s then .next s
    else
      match step s with
      | .next t => runUntil finished n t
      | .fault r => .fault r
      | .refused r => .refused r

/-- The first `n` steps are safe: none is refused before the run ends. -/
def safeFor (finished : State → Bool) (n : Nat) (s : State) : Bool :=
  match runUntil finished n s with
  | .next _ => true
  | .fault _ => false
  | .refused _ => false

/-! ## The terms claims use: what a step may change, and what it stores -/

/-- The content of RAM or ROM at an address, read without any effect (20_memory.md R54). -/
def State.byteAt (s : State) (addr : Word) : Byte := s.mem.get addr.toNat

/-- The pieces of state a frame speaks of. `mem` is the content of every address, `devices` the record of accesses to
device addresses, `draws` the count of free values taken. -/
inductive Part where
  | a | b | x | y | u | s | pc | dp
  | flag (fl : Flag)
  | nmiArmed | nmiPending | waitState | irqEnv
  | mem | devices | draws
  deriving DecidableEq, Repr

/-- The piece of state is the same before and after. -/
def Part.same (s t : State) : Part → Prop
  | .a => t.a = s.a
  | .b => t.b = s.b
  | .x => t.x = s.x
  | .y => t.y = s.y
  | .u => t.u = s.u
  | .s => t.s = s.s
  | .pc => t.pc = s.pc
  | .dp => t.dp = s.dp
  | .flag fl => ccGet t.cc fl = ccGet s.cc fl
  | .nmiArmed => t.nmiArmed = s.nmiArmed
  | .nmiPending => t.nmiPending = s.nmiPending
  | .waitState => t.waitState = s.waitState
  | .irqEnv => t.irqEnv = s.irqEnv
  | .mem => ∀ addr, t.byteAt addr = s.byteAt addr
  | .devices => t.deviceLog = s.deviceLog
  | .draws => t.draws = s.draws

/-- The frame: every piece of state outside the list is the same before and after, and so are the parameters, which
nothing changes. -/
def changesOnly (ps : List Part) (s t : State) : Prop :=
  (t.memMap = s.memMap ∧ t.nmiArming = s.nmiArming ∧ t.undefinedFlag = s.undefinedFlag) ∧
    ∀ p, p ∉ ps → p.same s t

/-- The frame of an instruction that obtains an address or an operand and then does its own operation: from the state
`u` in which it was obtained only the parts `ps` change, so the base register of an auto increment or decrement form is
moved exactly as the form says, and no device is accessed and no free value taken but to obtain it. From the state `s`
before it, `ps` and what obtaining it may touch. -/
def changesAfter (ps touched : List Part) (s u t : State) : Prop :=
  changesOnly ps u t ∧ changesOnly (ps ++ touched) s t

/-- Every flag of CC. -/
def allFlags : List Part :=
  [.flag .e, .flag .f, .flag .h, .flag .i, .flag .n, .flag .z, .flag .v, .flag .c]

end Sys2Proof.Machine

namespace Sys2Proof

open Machine

/-- The part that is a base register of an indexed form. -/
def IndexReg.part : IndexReg → Part
  | .x => .x
  | .y => .y
  | .u => .u
  | .s => .s

/-- The base register that an indexed form writes: auto increment and decrement only (30_encoding.md R96, R97). -/
def Indexed.written : Indexed → List Part
  | .inc1 r => [r.part]
  | .inc2 r _ => [r.part]
  | .dec1 r => [r.part]
  | .dec2 r _ => [r.part]
  | .off5 _ _ | .off0 _ _ | .off8 _ _ _ | .off16 _ _ _ | .accA _ _ | .accB _ _ | .accD _ _ | .pcr8 _ _ | .pcr16 _ _
  | .extInd _ => []

/-- What obtaining the address of a memory operand, and reading there, can change: the base register of an auto
increment or decrement form, and, where the address or the pointer is a device's or empty, the record of accesses and
the count of free values. -/
def MemOperand.touched : MemOperand → List Part
  | .dir _ => [.devices, .draws]
  | .ext _ => [.devices, .draws]
  | .idx ix => ix.written ++ [.devices, .draws]

/-- As `MemOperand.touched`; an immediate operand changes nothing. -/
def Operand8.touched : Operand8 → List Part
  | .imm _ => []
  | .mem m => m.touched

/-- As `Operand8.touched`. -/
def Operand16.touched : Operand16 → List Part
  | .imm _ => []
  | .mem m => m.touched

end Sys2Proof

namespace Sys2Proof.Machine

/-- The bytes `l`, each with its address, were stored one after the other (20_memory.md R56): each is in memory where
the address is RAM, ROM and empty addresses keep what they had, a device receives its byte in that order, and every
other address keeps its content. The addresses of `l` are meant to differ. -/
def storesBytes (s t : State) (l : List (Word × Byte)) : Prop :=
  (∀ addr, (∀ p ∈ l, p.1 ≠ addr) → t.byteAt addr = s.byteAt addr) ∧
  (∀ p ∈ l, t.byteAt p.1 = if s.kindAt p.1 = .ram then p.2 else s.byteAt p.1) ∧
  t.deviceLog = ((l.filter (fun p => s.kindAt p.1 == .device)).map (fun p => DeviceAccess.write p.1 p.2)).reverse ++ s.deviceLog

/-- The bytes of `MemWrite(ea, 2, v)`, in the order they are written (20_memory.md R57). -/
def wordBytes (ea v : Word) : List (Word × Byte) := [(ea, highByte v), (ea + 1#16, lowByte v)]

/-- Bytes pushed one after the other from the stack pointer `sp` down, each at the address below the one before
(00_scope.md R11). -/
def pushedBytes : Word → List Byte → List (Word × Byte)
  | _, [] => []
  | sp, v :: vs => (sp - 1#16, v) :: pushedBytes (sp - 1#16) vs

/-- The entire state in the order it is pushed, PC low byte first, CC last (49_interrupt_instructions.md R307). -/
def State.entireFrame (s : State) (cc : Byte) : List Byte :=
  [lowByte s.pc, highByte s.pc, lowByte s.u, highByte s.u, lowByte s.y, highByte s.y, lowByte s.x, highByte s.x,
    s.dp, s.b, s.a, cc]

/-- `n` single reads at ascending addresses: the bytes, and the state after them (20_memory.md R54). -/
def State.readBytes (s : State) : Word → Nat → List Byte × State
  | _, 0 => ([], s)
  | a, n + 1 =>
    let (v, s) := s.readByte a
    let (vs, s) := s.readBytes (a + 1#16) n
    (v :: vs, s)

/-- Every address but those of `l` keeps its content. -/
def keepsOutside (s t : State) (l : List (Word × Byte)) : Prop :=
  ∀ addr, (∀ p ∈ l, p.1 ≠ addr) → t.byteAt addr = s.byteAt addr

/-- The bytes at `a` and after it are `bs`, in RAM or ROM. -/
def State.holdsBytes (s : State) : Word → List Byte → Prop
  | _, [] => True
  | a, v :: vs => (s.kindAt a = .ram ∨ s.kindAt a = .rom) ∧ s.byteAt a = v ∧ s.holdsBytes (a + 1#16) vs

/-- The `n` bytes from `a` up are RAM. -/
def State.ramAt (s : State) : Word → Nat → Prop
  | _, 0 => True
  | a, n + 1 => s.kindAt a = .ram ∧ s.ramAt (a + 1#16) n

/-- Nothing diverts this step from the instruction at PC: the machine runs, reset is inactive, no NMI is latched or
arrives armed, and FIRQ and IRQ are inactive or masked (60_exceptions.md R333). -/
def State.undisturbed (s : State) : Prop :=
  s.waitState = .running ∧ s.inputs.resetLow = false ∧ (s.latchNmi s.inputs).pendingInterrupt s.inputs = none

end Sys2Proof.Machine
end

