-- ==== Sys2Proof/WellFormed.lean ====
section
/-! DEFINITION. When an instruction term is one the 6809 has an encoding for. Every field but the two registers of
TFR and EXG is bounded by its own type; those two must have the same size: "Le transfert ne peut se faire que sur
des registres de même taille" (30_encoding.md R84, 40_data_transfer.md R121, R122). -/

namespace Sys2Proof

/-- Both registers of a TFR or EXG have the same size (30_encoding.md R84). -/
def Reg.sameSize : Reg → Reg → Bool
  | .r16 _, .r16 _ => true
  | .r8 _, .r8 _ => true
  | .r16 _, .r8 _ => false
  | .r8 _, .r16 _ => false

/-- The instruction is one the encoding can express: TFR and EXG name two registers of the same size. -/
def Instr.wellFormed : Instr → Bool
  | .exg r1 r2 => r1.sameSize r2
  | .tfr r1 r2 => r1.sameSize r2
  | _ => true

end Sys2Proof
end

