-- ==== Sys2Proof/Certificates/Slice0/Obligations.lean ====
section
/-! DEFINITION. The statements for the provers: `def Obligations.<Name> : Prop`. The namespace `Claims` holds the shapes
that several instructions share, each said once. In a claim about an instruction PC already holds the address of the
next instruction, as it does when the instruction executes (10_state.md R27). -/

namespace Sys2Proof.Claims

open Machine

/-! ## Encodings -/

/-- The bytes decode to the instruction, whatever follows them. -/
def decodesTo (bytes : List Byte) (i : Instr) : Prop := ∀ rest, decode (bytes ++ rest) = .ok (i, rest)

/-- The direct, indexed and extended opcodes of an instruction, after its page byte if it has one. -/
def memoryForms (k : MemOperand → Instr) (page : List Byte) (dir idx ext : Byte) : Prop :=
  (∀ off, decodesTo (page ++ [dir, off]) (k (.dir off))) ∧
  (∀ ix, decodesTo (page ++ idx :: encodeIndexed ix) (k (.idx ix))) ∧
  (∀ h l, decodesTo (page ++ [ext, h, l]) (k (.ext (joinBytes h l))))

/-- As `memoryForms`, with the immediate opcode of an 8-bit instruction. -/
def operandForms8 (k : Operand8 → Instr) (page : List Byte) (imm dir idx ext : Byte) : Prop :=
  (∀ v, decodesTo (page ++ [imm, v]) (k (.imm v))) ∧ memoryForms (fun m => k (.mem m)) page dir idx ext

/-- As `memoryForms`, with the immediate opcode of a 16-bit instruction. -/
def operandForms16 (k : Operand16 → Instr) (page : List Byte) (imm dir idx ext : Byte) : Prop :=
  (∀ h l, decodesTo (page ++ [imm, h, l]) (k (.imm (joinBytes h l)))) ∧
  memoryForms (fun m => k (.mem m)) page dir idx ext

/-! ## Flags -/

/-- N, Z and V of the state. -/
def nzvAre (t : State) (n z v : Bool) : Prop := ccGet t.cc .n = n ∧ ccGet t.cc .z = z ∧ ccGet t.cc .v = v

/-- The parts N, Z, V. -/
def nzv : List Part := [.flag .n, .flag .z, .flag .v]

/-- The parts N, Z, V, C. -/
def nzvc : List Part := [.flag .n, .flag .z, .flag .v, .flag .c]

/-- The integer is an 8-bit two's complement number. -/
def fits8 (i : Int) : Bool := decide (-128 ≤ i ∧ i ≤ 127)

/-- The integer is a 16-bit two's complement number. -/
def fits16 (i : Int) : Bool := decide (-32768 ≤ i ∧ i ≤ 32767)

/-- The flag `fl`, which the instruction leaves undefined: its value is free, and under `undefined_flag = unchanged`
it is the old one (92_eei_decisions.md D12). -/
def leavesUndefined (fl : Flag) (s t : State) : Prop := s.undefinedFlag = .unchanged → ccGet t.cc fl = ccGet s.cc fl

/-! ## Loads and stores -/

/-- An 8-bit load (40_data_transfer.md R123). -/
def loads8 (k : Operand8 → Instr) (reg : Part) (get : State → Byte) : Prop :=
  ∀ op s, ∃ t, exec (k op) s = .next t ∧ get t = (s.operand8 op).1 ∧ nzvAre t (get t).msb (get t == 0#8) false ∧
    changesAfter (reg :: nzv) op.touched s (s.operand8 op).2 t

/-- A 16-bit load (40_data_transfer.md R123). -/
def loads16 (k : Operand16 → Instr) (regs : List Part) (get : State → Word) : Prop :=
  ∀ op s, ∃ t, exec (k op) s = .next t ∧ get t = (s.operand16 op).1 ∧ nzvAre t (get t).msb (get t == 0#16) false ∧
    changesAfter (regs ++ nzv) op.touched s (s.operand16 op).2 t

/-- An 8-bit store (40_data_transfer.md R131): the address, then the register as it then is. -/
def stores8 (k : MemOperand → Instr) (get : State → Byte) : Prop :=
  ∀ m s, s.mem.wf = true → ∃ t, exec (k m) s = .next t ∧
    storesBytes (s.resolveEA m).2 t [((s.resolveEA m).1, get (s.resolveEA m).2)] ∧
    keepsOutside s t [((s.resolveEA m).1, get (s.resolveEA m).2)] ∧
    nzvAre t (get (s.resolveEA m).2).msb (get (s.resolveEA m).2 == 0#8) false ∧
    changesAfter (.mem :: .devices :: nzv) m.touched s (s.resolveEA m).2 t

/-- A 16-bit store (40_data_transfer.md R131, 20_memory.md R57). -/
def stores16 (k : MemOperand → Instr) (get : State → Word) : Prop :=
  ∀ m s, s.mem.wf = true → ∃ t, exec (k m) s = .next t ∧
    storesBytes (s.resolveEA m).2 t (wordBytes (s.resolveEA m).1 (get (s.resolveEA m).2)) ∧
    keepsOutside s t (wordBytes (s.resolveEA m).1 (get (s.resolveEA m).2)) ∧
    nzvAre t (get (s.resolveEA m).2).msb (get (s.resolveEA m).2 == 0#16) false ∧
    changesAfter (.mem :: .devices :: nzv) m.touched s (s.resolveEA m).2 t

/-! ## Register transfers -/

/-- The parts a 16-bit register is made of. -/
def parts16 : Reg16 → List Part
  | .d => [.a, .b]
  | .x => [.x]
  | .y => [.y]
  | .u => [.u]
  | .s => [.s]
  | .pc => [.pc]

/-- The parts an 8-bit register is made of. -/
def parts8 : Reg8 → List Part
  | .a => [.a]
  | .b => [.b]
  | .cc => allFlags
  | .dp => [.dp]

/-- A load of S by an instruction other than LDS arms NMI under `any_write_to_S` (60_exceptions.md R331). -/
def armsIf (loadsS : Bool) (s t : State) : Prop :=
  t.nmiArmed = (s.nmiArmed || (loadsS && s.nmiArming == .anyWriteToS))

/-! ## Stacks -/

/-- The list if the bit is set. -/
def pick {α : Type} (selected : Bool) (l : List α) : List α := if selected then l else []

/-- The bytes a push instruction stores, in the order it stores them (41_stack_push_pull.md R142); `other` is the other
stack pointer. -/
def pushImage (s : State) (other : Word) (pb : Byte) : List Byte :=
  pick (pb.getLsbD 7) [lowByte s.pc, highByte s.pc] ++ pick (pb.getLsbD 6) [lowByte other, highByte other] ++
  pick (pb.getLsbD 5) [lowByte s.y, highByte s.y] ++ pick (pb.getLsbD 4) [lowByte s.x, highByte s.x] ++
  pick (pb.getLsbD 3) [s.dp] ++ pick (pb.getLsbD 2) [s.b] ++ pick (pb.getLsbD 1) [s.a] ++ pick (pb.getLsbD 0) [s.cc]

/-- A push instruction on the stack `sp`. -/
def pushes (k : Byte → Instr) (sp : StackPtr) (part : Part) (other : State → Word) : Prop :=
  ∀ pb s, s.mem.wf = true → ∃ t, exec (k pb) s = .next t ∧
    t.getSP sp = s.getSP sp - BitVec.ofNat 16 (pushImage s (other s) pb).length ∧
    storesBytes s t (pushedBytes (s.getSP sp) (pushImage s (other s) pb)) ∧
    changesOnly [part, .mem, .devices] s t

/-- How many bytes lie below the register of bit `n` in the frame of a pull: one for each selected register of bits 0
to 3, two for each of bits 4 to 7 (41_stack_push_pull.md R142). -/
def pullOffset (pb : Byte) : Nat → Nat
  | 0 => 0
  | n + 1 => pullOffset pb n + if pb.getLsbD n then (if n < 4 then 1 else 2) else 0

/-- The byte a list has at a place. -/
def byteOf (l : List Byte) (n : Nat) : Byte := l.getD n 0x00#8

/-- The word a list has at a place, high byte first. -/
def wordOf (l : List Byte) (n : Nat) : Word := joinBytes (byteOf l n) (byteOf l (n + 1))

/-- A pull instruction on the stack `sp`: the bytes are read in ascending order from the stack pointer, and each selected
register takes its byte or bytes. -/
def pulls (k : Byte → Instr) (sp : StackPtr) (part : Part) (other : State → Word) (otherParts : List Part)
    (loadsS : Bool) : Prop :=
  ∀ pb s, ∃ t, exec (k pb) s = .next t ∧
    (let bytes := (s.readBytes (s.getSP sp) (pullOffset pb 8)).1
     (pb.getLsbD 0 = true → t.cc = byteOf bytes (pullOffset pb 0)) ∧
     (pb.getLsbD 1 = true → t.a = byteOf bytes (pullOffset pb 1)) ∧
     (pb.getLsbD 2 = true → t.b = byteOf bytes (pullOffset pb 2)) ∧
     (pb.getLsbD 3 = true → t.dp = byteOf bytes (pullOffset pb 3)) ∧
     (pb.getLsbD 4 = true → t.x = wordOf bytes (pullOffset pb 4)) ∧
     (pb.getLsbD 5 = true → t.y = wordOf bytes (pullOffset pb 5)) ∧
     (pb.getLsbD 6 = true → other t = wordOf bytes (pullOffset pb 6)) ∧
     (pb.getLsbD 7 = true → t.pc = wordOf bytes (pullOffset pb 7))) ∧
    t.getSP sp = s.getSP sp + BitVec.ofNat 16 (pullOffset pb 8) ∧
    armsIf (loadsS && pb.getLsbD 6) s t ∧
    t.deviceLog = (s.readBytes (s.getSP sp) (pullOffset pb 8)).2.deviceLog ∧
    t.draws = (s.readBytes (s.getSP sp) (pullOffset pb 8)).2.draws ∧
    changesOnly (part :: .devices :: .draws ::
      (pick (pb.getLsbD 0) allFlags ++ pick (pb.getLsbD 1) [.a] ++ pick (pb.getLsbD 2) [.b] ++
       pick (pb.getLsbD 3) [.dp] ++ pick (pb.getLsbD 4) [.x] ++ pick (pb.getLsbD 5) [.y] ++
       pick (pb.getLsbD 6) otherParts ++ pick (pb.getLsbD 7) [.pc])) s t

/-! ## Arithmetic -/

/-- `ACCX <- ACCX + M + carry` with H, N, Z, V, C (00_scope.md R13). -/
def adds8 (k : Operand8 → Instr) (acc : Part) (get : State → Byte) (carry : State → Bool) : Prop :=
  ∀ op s, ∃ t, exec (k op) s = .next t ∧
    (let m := (s.operand8 op).1
     (get t).toNat = ((get s).toNat + m.toNat + (carry s).toNat) % 256 ∧
     ccGet t.cc .h = decide (16 ≤ (get s).toNat % 16 + m.toNat % 16 + (carry s).toNat) ∧
     ccGet t.cc .c = decide (256 ≤ (get s).toNat + m.toNat + (carry s).toNat) ∧
     nzvAre t (get t).msb (get t == 0#8) (!fits8 ((get s).toInt + m.toInt + ((carry s).toNat : Int)))) ∧
    changesAfter (acc :: .flag .h :: nzvc) op.touched s (s.operand8 op).2 t

/-- The flags of `v - m - borrow` on 8 bits, H undefined (00_scope.md R13). -/
def differenceFlags8 (s t : State) (v m : Byte) (borrow : Bool) : Prop :=
  ccGet t.cc .c = decide (v.toNat < m.toNat + borrow.toNat) ∧
  nzvAre t (v - m - BitVec.ofNat 8 borrow.toNat).msb (v - m - BitVec.ofNat 8 borrow.toNat == 0#8)
    (!fits8 (v.toInt - m.toInt - (borrow.toNat : Int))) ∧
  leavesUndefined .h s t

/-- `ACCX <- ACCX - M - borrow` with N, Z, V, C, H undefined (00_scope.md R13). -/
def subtracts8 (k : Operand8 → Instr) (acc : Part) (get : State → Byte) (borrow : State → Bool) : Prop :=
  ∀ op s, ∃ t, exec (k op) s = .next t ∧
    get t = get s - (s.operand8 op).1 - BitVec.ofNat 8 (borrow s).toNat ∧
    differenceFlags8 s t (get s) (s.operand8 op).1 (borrow s) ∧
    changesAfter (acc :: .flag .h :: .draws :: nzvc) op.touched s (s.operand8 op).2 t

/-- The flags of `v - M`, nothing else (46_test_compare.md R223). -/
def compares8 (k : Operand8 → Instr) (get : State → Byte) : Prop :=
  ∀ op s, ∃ t, exec (k op) s = .next t ∧ differenceFlags8 s t (get s) (s.operand8 op).1 false ∧
    changesAfter (.flag .h :: .draws :: nzvc) op.touched s (s.operand8 op).2 t

/-- The flags of `v - m` on 16 bits (00_scope.md R13). -/
def differenceFlags16 (t : State) (v m : Word) : Prop :=
  ccGet t.cc .c = decide (v.toNat < m.toNat) ∧ nzvAre t (v - m).msb (v - m == 0#16) (!fits16 (v.toInt - m.toInt))

/-- The flags of `v - M16`, nothing else (46_test_compare.md R225), `v` being the register after the operand was read. -/
def compares16 (k : Operand16 → Instr) (get : State → Word) : Prop :=
  ∀ op s, ∃ t, exec (k op) s = .next t ∧ differenceFlags16 t (get (s.operand16 op).2) (s.operand16 op).1 ∧
    changesAfter nzvc op.touched s (s.operand16 op).2 t

/-! ## Logic and tests -/

/-- `ACCX <- f(ACCX, M)` with N, Z, V (43_logic.md R170). -/
def combines8 (k : Operand8 → Instr) (acc : Part) (get : State → Byte) (f : Byte → Byte → Byte) : Prop :=
  ∀ op s, ∃ t, exec (k op) s = .next t ∧ get t = f (get s) (s.operand8 op).1 ∧
    nzvAre t (get t).msb (get t == 0#8) false ∧ changesAfter (acc :: nzv) op.touched s (s.operand8 op).2 t

/-- N, Z, V from `ACCX & M`, nothing else (46_test_compare.md R221). -/
def testsBits (k : Operand8 → Instr) (get : State → Byte) : Prop :=
  ∀ op s, ∃ t, exec (k op) s = .next t ∧
    nzvAre t (get s &&& (s.operand8 op).1).msb (get s &&& (s.operand8 op).1 == 0#8) false ∧
    changesAfter nzv op.touched s (s.operand8 op).2 t

/-! ## Operations on one byte, in an accumulator or in memory -/

/-- An operation on one byte: its result from the byte and the old C, and what it says of the flags of the state
before and after. -/
structure ByteOp where
  result : Byte → Bool → Byte
  flags : Byte → State → State → Prop
  writes : List Part

/-- The operation on an accumulator. -/
def ByteOp.onAcc (o : ByteOp) (i : Instr) (acc : Part) (get : State → Byte) : Prop :=
  ∀ s, ∃ t, exec i s = .next t ∧ get t = o.result (get s) (ccGet s.cc .c) ∧ o.flags (get s) s t ∧
    changesOnly (acc :: o.writes) s t

/-- The byte that an operation on memory finds: the one read of it (20_memory.md R61). -/
def found (m : MemOperand) (s : State) : Byte := ((s.resolveEA m).2.readByte (s.resolveEA m).1).1

/-- The operation on a byte of memory: one read, then one write to the same address (20_memory.md R61). -/
def ByteOp.onMemory (o : ByteOp) (k : MemOperand → Instr) : Prop :=
  ∀ m s, s.mem.wf = true → ∃ t, exec (k m) s = .next t ∧
    (let ea := (s.resolveEA m).1
     let read := ((s.resolveEA m).2.readByte ea).2
     storesBytes read t [(ea, o.result (found m s) (ccGet s.cc .c))] ∧
     keepsOutside s t [(ea, o.result (found m s) (ccGet s.cc .c))] ∧
     changesAfter (.mem :: .devices :: o.writes) m.touched s read t) ∧
    o.flags (found m s) s t

/-- ASR: "divides a signed number by 2, rounding toward minus infinity" (44_shift_rotate.md R183). -/
def asrOp : ByteOp where
  result m _ := BitVec.ofInt 8 (m.toInt / 2)
  flags m s t :=
    ccGet t.cc .c = m.getLsbD 0 ∧ ccGet t.cc .n = m.getLsbD 7 ∧
    ccGet t.cc .z = (BitVec.ofInt 8 (m.toInt / 2) == 0#8) ∧ leavesUndefined .h s t
  writes := [.flag .n, .flag .z, .flag .c, .flag .h, .draws]

/-- ASL (44_shift_rotate.md R186). -/
def aslOp : ByteOp where
  result m _ := BitVec.ofNat 8 (2 * m.toNat)
  flags m s t :=
    ccGet t.cc .c = m.getLsbD 7 ∧
    nzvAre t (m.getLsbD 6) (BitVec.ofNat 8 (2 * m.toNat) == 0#8) (m.getLsbD 7 ^^ m.getLsbD 6) ∧ leavesUndefined .h s t
  writes := .flag .h :: .draws :: nzvc

/-- LSR (44_shift_rotate.md R189). -/
def lsrOp : ByteOp where
  result m _ := BitVec.ofNat 8 (m.toNat / 2)
  flags m _ t :=
    ccGet t.cc .c = m.getLsbD 0 ∧ ccGet t.cc .n = false ∧ ccGet t.cc .z = (BitVec.ofNat 8 (m.toNat / 2) == 0#8)
  writes := [.flag .n, .flag .z, .flag .c]

/-- ROL (44_shift_rotate.md R192). -/
def rolOp : ByteOp where
  result m c := BitVec.ofNat 8 (2 * m.toNat + c.toNat)
  flags m s t :=
    ccGet t.cc .c = m.getLsbD 7 ∧
    nzvAre t (m.getLsbD 6) (BitVec.ofNat 8 (2 * m.toNat + (ccGet s.cc .c).toNat) == 0#8) (m.getLsbD 7 ^^ m.getLsbD 6)
  writes := nzvc

/-- ROR (44_shift_rotate.md R195). -/
def rorOp : ByteOp where
  result m c := BitVec.ofNat 8 (m.toNat / 2 + 128 * c.toNat)
  flags m s t :=
    ccGet t.cc .c = m.getLsbD 0 ∧ ccGet t.cc .n = ccGet s.cc .c ∧
    ccGet t.cc .z = (BitVec.ofNat 8 (m.toNat / 2 + 128 * (ccGet s.cc .c).toNat) == 0#8)
  writes := [.flag .n, .flag .z, .flag .c]

/-- CLR (45_inc_dec_clr_com_neg_nop.md R201). -/
def clrOp : ByteOp where
  result _ _ := 0x00#8
  flags _ _ t := nzvAre t false true false ∧ ccGet t.cc .c = false
  writes := nzvc

/-- DEC (45_inc_dec_clr_com_neg_nop.md R204). -/
def decOp : ByteOp where
  result m _ := m - 1#8
  flags m _ t := nzvAre t (m - 1#8).msb (m == 1#8) (m == 0x80#8)
  writes := nzv

/-- INC (45_inc_dec_clr_com_neg_nop.md R207). -/
def incOp : ByteOp where
  result m _ := m + 1#8
  flags m _ t := nzvAre t (m + 1#8).msb (m == 0xFF#8) (m == 0x7F#8)
  writes := nzv

/-- COM (45_inc_dec_clr_com_neg_nop.md R210). -/
def comOp : ByteOp where
  result m _ := ~~~m
  flags m _ t := nzvAre t (!m.msb) (m == 0xFF#8) false ∧ ccGet t.cc .c = true
  writes := nzvc

/-- NEG (45_inc_dec_clr_com_neg_nop.md R213). -/
def negOp : ByteOp where
  result m _ := 0#8 - m
  flags m s t :=
    nzvAre t (0#8 - m).msb (m == 0#8) (m == 0x80#8) ∧ ccGet t.cc .c = (m != 0#8) ∧ leavesUndefined .h s t
  writes := .flag .h :: .draws :: nzvc

/-! ## Branches -/

/-- One row of the table of conditions: the condition, when it holds as a formula of N, Z, V, C, and the short and the
long branch with their opcodes (47_branches.md R241). -/
structure BranchRow where
  cond : Cond
  formula : Bool → Bool → Bool → Bool → Bool
  short : Byte → Instr
  shortOpcode : Byte
  long : Word → Instr
  longOpcode : List Byte

/-- The table of 47_branches.md R241. -/
def branchTable : List BranchRow :=
  [⟨.always, fun _ _ _ _ => true, .bra, 0x20#8, .lbra, [0x16#8]⟩,
   ⟨.never, fun _ _ _ _ => false, .brn, 0x21#8, .lbrn, [0x10#8, 0x21#8]⟩,
   ⟨.hi, fun _ z _ c => !c && !z, .bhi, 0x22#8, .lbhi, [0x10#8, 0x22#8]⟩,
   ⟨.ls, fun _ z _ c => c || z, .bls, 0x23#8, .lbls, [0x10#8, 0x23#8]⟩,
   ⟨.cc, fun _ _ _ c => !c, .bcc, 0x24#8, .lbcc, [0x10#8, 0x24#8]⟩,
   ⟨.cs, fun _ _ _ c => c, .bcs, 0x25#8, .lbcs, [0x10#8, 0x25#8]⟩,
   ⟨.ne, fun _ z _ _ => !z, .bne, 0x26#8, .lbne, [0x10#8, 0x26#8]⟩,
   ⟨.eq, fun _ z _ _ => z, .beq, 0x27#8, .lbeq, [0x10#8, 0x27#8]⟩,
   ⟨.vc, fun _ _ v _ => !v, .bvc, 0x28#8, .lbvc, [0x10#8, 0x28#8]⟩,
   ⟨.vs, fun _ _ v _ => v, .bvs, 0x29#8, .lbvs, [0x10#8, 0x29#8]⟩,
   ⟨.pl, fun n _ _ _ => !n, .bpl, 0x2A#8, .lbpl, [0x10#8, 0x2A#8]⟩,
   ⟨.mi, fun n _ _ _ => n, .bmi, 0x2B#8, .lbmi, [0x10#8, 0x2B#8]⟩,
   ⟨.ge, fun n _ v _ => n == v, .bge, 0x2C#8, .lbge, [0x10#8, 0x2C#8]⟩,
   ⟨.lt, fun n _ v _ => n != v, .blt, 0x2D#8, .lblt, [0x10#8, 0x2D#8]⟩,
   ⟨.gt, fun n z v _ => !z && n == v, .bgt, 0x2E#8, .lbgt, [0x10#8, 0x2E#8]⟩,
   ⟨.le, fun n z v _ => z || n != v, .ble, 0x2F#8, .lble, [0x10#8, 0x2F#8]⟩]

/-- The formula of a row on the flags of a state. -/
def BranchRow.taken (r : BranchRow) (s : State) : Bool :=
  r.formula (ccGet s.cc .n) (ccGet s.cc .z) (ccGet s.cc .v) (ccGet s.cc .c)

/-- A branch that adds `rel` to PC when the row's formula holds, and does nothing else. -/
def BranchRow.branches (r : BranchRow) (i : Instr) (rel : Int) : Prop :=
  ∀ s, ∃ t, exec i s = .next t ∧ t.pc = (if r.taken s then s.pc + BitVec.ofInt 16 rel else s.pc) ∧
    changesOnly [.pc] s t

/-! ## Calls, LEA -/

/-- `Push16(S, PC); PC <- target` from the state `s1` in which the target is known (48_jumps_subroutines_lea.md R282). -/
def callsFrom (s1 t : State) (target : Word) : Prop :=
  t.pc = target ∧ t.s = s1.s - 2#16 ∧
  storesBytes s1 t (pushedBytes s1.s [lowByte s1.pc, highByte s1.pc])

/-- LEA into a register (48_jumps_subroutines_lea.md R287). -/
def loadsAddress (k : Indexed → Instr) (parts : List Part) (get : State → Word) : Prop :=
  ∀ ix s, ∃ t, exec (k ix) s = .next t ∧ get t = (s.indexedEA ix).1 ∧
    changesAfter parts (MemOperand.idx ix).touched s (s.indexedEA ix).2 t

/-! ## Exceptions -/

/-- PC was read from a vector in the state `u`, and the read is all that happened after it to memory and devices
(60_exceptions.md R326). -/
def vectored (u t : State) (vector : Word) : Prop :=
  t.pc = (u.readWord vector).1 ∧ t.deviceLog = (u.readWord vector).2.deviceLog ∧
  t.draws = (u.readWord vector).2.draws ∧ ∀ addr, t.byteAt addr = u.byteAt addr

/-- A frame was pushed on S and PC was then read from the vector, in that order (60_exceptions.md R326, R328): `u` is
the state between the two. -/
def entersThrough (s t : State) (frame : List Byte) (vector : Word) : Prop :=
  t.s = s.s - BitVec.ofNat 16 frame.length ∧
  ∃ u, storesBytes s u (pushedBytes s.s frame) ∧ changesOnly [.s, .flag .e, .mem, .devices] s u ∧ vectored u t vector

/-- The flags listed are set and every other flag is as before. -/
def setsFlags (fls : List Flag) (s t : State) : Prop := ∀ fl, ccGet t.cc fl = (fls.contains fl || ccGet s.cc fl)

/-- What an entry may change (60_exceptions.md R335). -/
def entryParts : List Part :=
  [.pc, .s, .flag .e, .flag .i, .flag .f, .nmiPending, .waitState, .irqEnv, .mem, .devices, .draws]

/-- A software interrupt: the entire frame with E set in the CC pushed, the flags `fls` set, PC from the vector
(49_interrupt_instructions.md R304 to R307). -/
def softwareInterrupt (i : Instr) (fls : List Flag) (vector : Word) : Prop :=
  ∀ s, s.mem.wf = true → ∃ t, exec i s = .next t ∧
    entersThrough s t (s.entireFrame (ccPut s.cc .e true)) vector ∧ setsFlags fls s t ∧
    t.nmiPending = s.nmiPending ∧ t.waitState = s.waitState ∧ t.irqEnv = s.irqEnv ∧ changesOnly entryParts s t

/-- NMI is latched when this step looks at it (60_exceptions.md R323, R333). -/
def nmiLatched (s : State) : Prop := s.nmiPending = true ∨ (s.inputs.nmiFell = true ∧ s.nmiArmed = true)

/-- An unmasked FIRQ is present at this step. -/
def firqPresent (s : State) : Prop := s.inputs.firqLow = true ∧ ccGet s.cc .f = false

/-- An unmasked IRQ is present at this step. -/
def irqPresent (s : State) : Prop := s.inputs.irqLow = true ∧ ccGet s.cc .i = false

end Sys2Proof.Claims

open Sys2Proof Sys2Proof.Machine Sys2Proof.Claims

/-! ## Encodings -/

/-- The source's own examples and the spec's, one word of each family, read as the instructions they stand for
(40_data_transfer.md R121 to R124, 41_stack_push_pull.md R141, 43_logic.md R173 and the examples of each rule). -/
def Obligations.WordsOfTheSpecDecodeAsItSays : Prop :=
  decodesTo [0x1E#8, 0x8B#8] (.exg (.r8 .a) (.r8 .dp)) ∧ decodesTo [0x1F#8, 0x01#8] (.tfr (.r16 .d) (.r16 .x)) ∧
  decodesTo [0xB6#8, 0x10#8, 0x00#8] (.lda (.mem (.ext 0x1000#16))) ∧
  decodesTo [0xE7#8, 0x80#8] (.stb (.idx (.inc1 .x))) ∧ decodesTo [0x34#8, 0xFF#8] (.pshs 0xFF#8) ∧
  decodesTo [0x3D#8] .mul ∧ decodesTo [0x88#8, 0xFF#8] (.eora (.imm 0xFF#8)) ∧
  decodesTo [0x04#8, 0x20#8] (.lsr (.dir 0x20#8)) ∧ decodesTo [0x6C#8, 0x84#8] (.inc (.idx (.off0 .x false))) ∧
  decodesTo [0x11#8, 0x8C#8, 0x80#8, 0x00#8] (.cmps (.imm 0x8000#16)) ∧
  decodesTo [0x10#8, 0x26#8, 0xFF#8, 0xFC#8] (.lbne 0xFFFC#16) ∧
  decodesTo [0x6E#8, 0x9F#8, 0xFF#8, 0xFE#8] (.jmp (.idx (.extInd 0xFFFE#16))) ∧
  decodesTo [0x32#8, 0x7E#8] (.leas (.off5 .s 0b11110#5)) ∧ decodesTo [0x3C#8, 0xEF#8] (.cwai 0xEF#8)

/-- Decoding what the encoder writes gives back the instruction and leaves the bytes after it, for every well-formed
instruction (30_encoding.md). -/
def Obligations.DecodeOfEncodeIsTheInstruction : Prop :=
  ∀ i rest, i.wellFormed = true → decode (encode i ++ rest) = .ok (i, rest)

/-- What the decoder accepts is well-formed, has the length of its encoding, 1 to 5 bytes, and that length is known from
its first bytes (30_encoding.md R70, R74). -/
def Obligations.DecodedBytesHaveTheEncodedLength : Prop :=
  ∀ bs i rest, decode bs = .ok (i, rest) →
    i.wellFormed = true ∧ ∃ used, bs = used ++ rest ∧ used.length = (encode i).length ∧
      1 ≤ used.length ∧ used.length ≤ 5 ∧ bytesNeeded bs = used.length

/-- The illegal opcodes are exactly the 33 of page 1 and all but 38 of page 2 and all but 9 of page 3, a page byte after
a page byte among them (30_encoding.md R108, R109). -/
def Obligations.IllegalOpcodesAreExactlyThose : Prop :=
  (∀ op rest, op ≠ 0x10#8 → op ≠ 0x11#8 →
    (decode (op :: rest) = .error .illegalOpcode ↔
      op ∈ [0x01#8, 0x02#8, 0x05#8, 0x0B#8, 0x14#8, 0x15#8, 0x18#8, 0x1B#8, 0x38#8, 0x3E#8, 0x41#8, 0x42#8, 0x45#8,
        0x4B#8, 0x4E#8, 0x51#8, 0x52#8, 0x55#8, 0x5B#8, 0x5E#8, 0x61#8, 0x62#8, 0x65#8, 0x6B#8, 0x71#8, 0x72#8, 0x75#8,
        0x7B#8, 0x87#8, 0x8F#8, 0xC7#8, 0xCD#8, 0xCF#8])) ∧
  (∀ op rest, decode (0x10#8 :: op :: rest) = .error .illegalOpcode ↔
    op ∉ [0x21#8, 0x22#8, 0x23#8, 0x24#8, 0x25#8, 0x26#8, 0x27#8, 0x28#8, 0x29#8, 0x2A#8, 0x2B#8, 0x2C#8, 0x2D#8, 0x2E#8,
      0x2F#8, 0x3F#8, 0x83#8, 0x8C#8, 0x8E#8, 0x93#8, 0x9C#8, 0x9E#8, 0x9F#8, 0xA3#8, 0xAC#8, 0xAE#8, 0xAF#8, 0xB3#8,
      0xBC#8, 0xBE#8, 0xBF#8, 0xCE#8, 0xDE#8, 0xDF#8, 0xEE#8, 0xEF#8, 0xFE#8, 0xFF#8]) ∧
  (∀ op rest, decode (0x11#8 :: op :: rest) = .error .illegalOpcode ↔
    op ∉ [0x3F#8, 0x83#8, 0x8C#8, 0x93#8, 0x9C#8, 0xA3#8, 0xAC#8, 0xB3#8, 0xBC#8])

/-- The illegal indexed postbytes are exactly the 39 of 30_encoding.md R102. -/
def Obligations.IllegalIndexedPostbytesAreExactlyThose : Prop :=
  ∀ pb rest, decodeIndexed (pb :: rest) = .error .illegalIndexedPostbyte ↔
    pb ∈ [0x87#8, 0x8A#8, 0x8E#8, 0x8F#8, 0x90#8, 0x92#8, 0x97#8, 0x9A#8, 0x9E#8,
      0xA7#8, 0xAA#8, 0xAE#8, 0xAF#8, 0xB0#8, 0xB2#8, 0xB7#8, 0xBA#8, 0xBE#8,
      0xC7#8, 0xCA#8, 0xCE#8, 0xCF#8, 0xD0#8, 0xD2#8, 0xD7#8, 0xDA#8, 0xDE#8,
      0xE7#8, 0xEA#8, 0xEE#8, 0xEF#8, 0xF0#8, 0xF2#8, 0xF7#8, 0xFA#8, 0xFE#8, 0xBF#8, 0xDF#8, 0xFF#8]

/-- The register postbyte: the first code in bits 7 to 4, the second in bits 3 to 0, the ten assigned codes, and refusal
of an unassigned code or of two sizes (30_encoding.md R83, R84). -/
def Obligations.RegisterPostbytesNameTwoRegistersOfOneSize : Prop :=
  (Reg.code (.r16 .d) = 0b0000#4 ∧ Reg.code (.r16 .x) = 0b0001#4 ∧ Reg.code (.r16 .y) = 0b0010#4 ∧
    Reg.code (.r16 .u) = 0b0011#4 ∧ Reg.code (.r16 .s) = 0b0100#4 ∧ Reg.code (.r16 .pc) = 0b0101#4 ∧
    Reg.code (.r8 .a) = 0b1000#4 ∧ Reg.code (.r8 .b) = 0b1001#4 ∧ Reg.code (.r8 .cc) = 0b1010#4 ∧
    Reg.code (.r8 .dp) = 0b1011#4) ∧
  (∀ r1 r2, decodeRegisterPostbyte (r1.code ++ r2.code) =
    if r1.sameSize r2 then .ok (r1, r2) else .error .illegalRegisterPostbyte) ∧
  (∀ c1 c2 : BitVec 4, (c1 ∈ [0b0110#4, 0b0111#4, 0b1100#4, 0b1101#4, 0b1110#4, 0b1111#4] ∨
      c2 ∈ [0b0110#4, 0b0111#4, 0b1100#4, 0b1101#4, 0b1110#4, 0b1111#4]) →
    decodeRegisterPostbyte (c1 ++ c2) = .error .illegalRegisterPostbyte)

/-! ## The step -/

/-- When nothing diverts the step and the bytes fetched at PC decode to a well-formed instruction, the step is that
instruction executed in the state after the fetch: PC past its bytes, one entry of `irq_env` used up, no register, flag
or byte of memory changed (30_encoding.md R71, 60_exceptions.md R333). -/
def Obligations.StepRunsTheDecodedInstruction : Prop :=
  ∀ s i rest, s.undisturbed → decode s.tickInputs.fetch.1 = .ok (i, rest) → i.wellFormed = true →
    step s = exec i s.tickInputs.fetch.2 ∧
    s.tickInputs.fetch.2.pc = s.pc + BitVec.ofNat 16 s.tickInputs.fetch.1.length ∧
    s.tickInputs.fetch.2.irqEnv = s.irqEnv.tail ∧
    changesOnly [.pc, .irqEnv, .devices, .draws] s s.tickInputs.fetch.2

/-- The fetch reads the instruction's bytes one by one in ascending order from PC, each an ordinary read, and advances PC
by one for each; it changes nothing else (30_encoding.md R71, 10_state.md R27). -/
def Obligations.FetchReadsAscendingBytes : Prop :=
  ∀ s : State, s.fetch.1 = (s.readBytes s.pc s.fetch.1.length).1 ∧ 1 ≤ s.fetch.1.length ∧ s.fetch.1.length ≤ 5 ∧
    s.fetch.2 = (s.readBytes s.pc s.fetch.1.length).2.setPC (s.pc + BitVec.ofNat 16 s.fetch.1.length)

/-- With the encoding of a well-formed instruction in RAM or ROM at PC and nothing that diverts the step, the step is the
instruction executed with PC at the address after it, and otherwise the same state (10_state.md R27, 20_memory.md R69). -/
def Obligations.StepExecutesTheEncodedInstruction : Prop :=
  ∀ s i, s.undisturbed → i.wellFormed = true → s.holdsBytes s.pc (encode i) →
    step s = exec i (s.tickInputs.setPC (s.pc + BitVec.ofNat 16 (encode i).length))

/-- Bytes at PC that the decoder refuses are refused by the step, under the same name (30_encoding.md R84, R102, R108). -/
def Obligations.IllegalBytesAreRefusedByTheStep : Prop :=
  ∀ s bs e, s.undisturbed → s.holdsBytes s.pc bs → decode bs = .error e → e ≠ .truncated →
    step s = .refused (refusalOf e)

/-- Every step completes or is refused by one of the three names of 00_scope.md R14; none faults, and the names
`notModelled` and `truncatedInstruction` never appear (00_scope.md R14, 60_exceptions.md R321). -/
def Obligations.EveryStepCompletesOrIsRefusedByName : Prop :=
  ∀ s, (∃ t, step s = .next t) ∨ step s = .refused .illegalOpcode ∨ step s = .refused .illegalIndexedPostbyte ∨
    step s = .refused .illegalRegisterPostbyte

/-! ## Invariants and reset -/

/-- The values the spec gives for reset: DP, the masks, the NMI bits, the wait state, and PC from the reset vector
(10_state.md R45). That nothing is listed in memory, so that the vector reads $0000, is the model's choice (assumption log 2);
the registers and flags the spec leaves unset are not spoken of (assumption log 1). -/
def Obligations.ResetStateIsAsTheSpecSays : Prop :=
  State.reset.dp = 0x00#8 ∧ ccGet State.reset.cc .i = true ∧ ccGet State.reset.cc .f = true ∧
  State.reset.nmiArmed = false ∧ State.reset.nmiPending = false ∧ State.reset.waitState = .running ∧
  State.reset.pc = (State.reset.readWord 0xFFFE#16).1

/-- The state after reset meets the invariant that every step keeps; the canonical form of memory is the model's own
(assumption log 2). -/
def Obligations.ResetStateMeetsTheInvariant : Prop := State.reset.Inv

/-- Every step keeps the invariant: memory in its canonical form, the model's own (assumption log 2), and the NMI latch set
only while NMI is armed (10_state.md R42, R43). -/
def Obligations.EveryStepKeepsTheInvariant : Prop := ∀ s t, s.Inv → step s = .next t → t.Inv

/-- No step changes the memory map, the two parameters, or the content of an address that is not RAM (20_memory.md R56);
that the map and the parameters are fields of the state is the model's choice (assumption log 3, 7, 8). -/
def Obligations.RomMapAndParametersNeverChange : Prop :=
  ∀ s t, s.Inv → step s = .next t →
    t.memMap = s.memMap ∧ t.nmiArming = s.nmiArming ∧ t.undefinedFlag = s.undefinedFlag ∧
    ∀ addr, s.kindAt addr ≠ .ram → t.byteAt addr = s.byteAt addr

/-- NMI once armed stays armed at every step but a reset, which disarms it (10_state.md R42). -/
def Obligations.NmiStaysArmedUntilReset : Prop :=
  ∀ s t, step s = .next t →
    (s.nmiArmed = true → s.inputs.resetLow = false → t.nmiArmed = true) ∧
    (s.inputs.resetLow = true → t.nmiArmed = false)

/-- Only a load of S arms NMI: LDS, and under `any_write_to_S` LEAS, TFR to S, EXG with S and PULU with the S bit; not the
other instructions that change S (60_exceptions.md R331). -/
def Obligations.OnlyLoadsOfSArmNmi : Prop :=
  ∀ i s t, exec i s = .next t → s.nmiArmed = false → t.nmiArmed = true →
    (∃ op, i = .lds op) ∨ (s.nmiArming = .anyWriteToS ∧
      ((∃ ix, i = .leas ix) ∨ (∃ r, i = .tfr r (.r16 .s)) ∨ (∃ r, i = .exg r (.r16 .s)) ∨ (∃ r, i = .exg (.r16 .s) r) ∨
        ∃ pb, i = .pulu pb ∧ pb.getLsbD 6 = true))

/-- A step uses up one entry of `irq_env`, and adds to the record of device accesses and to the count of free values without
rewriting them: the model's own choices (assumption log 4, 6, 10). -/
def Obligations.StepsUseOneInputAndExtendTheRecord : Prop :=
  ∀ s t, step s = .next t → t.irqEnv = s.irqEnv.tail ∧ (∃ new, t.deviceLog = new ++ s.deviceLog) ∧ s.draws ≤ t.draws

/-! ## Memory and addresses -/

/-- What one read and one write do at each kind of address (20_memory.md R54, R56); the last byte written to RAM is what
is read there. That a device answers freely and its accesses are recorded is the model's choice (assumption log 4). -/
def Obligations.AccessesFollowTheKindOfAddress : Prop :=
  (∀ (s : State) a, s.kindAt a = .ram ∨ s.kindAt a = .rom → s.readByte a = (s.byteAt a, s)) ∧
  (∀ (s : State) a, changesOnly [.devices, .draws] s (s.readByte a).2) ∧
  (∀ (s : State) a, s.kindAt a = .device →
    (s.readByte a).2.deviceLog = .read a (s.readByte a).1 :: s.deviceLog) ∧
  (∀ (s : State) a, s.kindAt a = .empty → (s.readByte a).2.deviceLog = s.deviceLog) ∧
  (∀ (s : State) a v, s.mem.wf = true →
    storesBytes s (s.writeByte a v) [(a, v)] ∧ changesOnly [.mem, .devices] s (s.writeByte a v)) ∧
  (∀ (s : State) a v, s.mem.wf = true → s.kindAt a = .ram → ((s.writeByte a v).readByte a).1 = v)

/-- 16-bit accesses are two byte accesses, the high byte at the lower address and first, the second address modulo 2^16
(20_memory.md R55, R57, R58); what is written to RAM is read back, whole or by halves. -/
def Obligations.WordsLieHighByteFirst : Prop :=
  (∀ (s : State) a, s.readWord a =
    (joinBytes (s.readByte a).1 ((s.readByte a).2.readByte (a + 1#16)).1, ((s.readByte a).2.readByte (a + 1#16)).2)) ∧
  (∀ (s : State) a v, s.mem.wf = true → storesBytes s (s.writeWord a v) [(a, highByte v), (a + 1#16, lowByte v)]) ∧
  (∀ (s : State) a v, s.mem.wf = true → s.ramAt a 2 →
    (s.writeWord a v).readWord a = (v, s.writeWord a v) ∧
    (s.writeWord a v).readByte a = (highByte v, s.writeWord a v) ∧
    (s.writeWord a v).readByte (a + 1#16) = (lowByte v, s.writeWord a v))

/-- The indexed forms: the postbyte of each, for every base register and either value of the indirect bit where it has
one (30_encoding.md R90 to R101), the address each computes, and the state it leaves: the state as it was or with the base
register moved by 1 or 2, and then, where the form is indirect and only there, what reading the pointer does. In the PC-relative
postbytes `RR` is ignored, and the indirect forms of auto increment and decrement by one are refused. -/
def Obligations.IndexedFormsDecodeAndAddress : Prop :=
  (∀ (r : IndexReg) (xx : BitVec 2) (i : Bool) (n : BitVec 5) (h l : Byte) (rest : List Byte),
    let pb (rr : BitVec 2) (ind : Bool) (mode : BitVec 4) : Byte := 1#1 ++ rr ++ BitVec.ofBool ind ++ mode
    decodeIndexed ((0#1 ++ r.code ++ n : BitVec 8) :: rest) = .ok (.off5 r n, rest) ∧
    decodeIndexed (pb r.code i 0b0100#4 :: rest) = .ok (.off0 r i, rest) ∧
    decodeIndexed (pb r.code i 0b1000#4 :: l :: rest) = .ok (.off8 r l i, rest) ∧
    decodeIndexed (pb r.code i 0b1001#4 :: h :: l :: rest) = .ok (.off16 r (joinBytes h l) i, rest) ∧
    decodeIndexed (pb r.code i 0b0110#4 :: rest) = .ok (.accA r i, rest) ∧
    decodeIndexed (pb r.code i 0b0101#4 :: rest) = .ok (.accB r i, rest) ∧
    decodeIndexed (pb r.code i 0b1011#4 :: rest) = .ok (.accD r i, rest) ∧
    decodeIndexed (pb r.code false 0b0000#4 :: rest) = .ok (.inc1 r, rest) ∧
    decodeIndexed (pb r.code i 0b0001#4 :: rest) = .ok (.inc2 r i, rest) ∧
    decodeIndexed (pb r.code false 0b0010#4 :: rest) = .ok (.dec1 r, rest) ∧
    decodeIndexed (pb r.code i 0b0011#4 :: rest) = .ok (.dec2 r i, rest) ∧
    decodeIndexed (pb xx i 0b1100#4 :: l :: rest) = .ok (.pcr8 l i, rest) ∧
    decodeIndexed (pb xx i 0b1101#4 :: h :: l :: rest) = .ok (.pcr16 (joinBytes h l) i, rest) ∧
    decodeIndexed (0x9F#8 :: h :: l :: rest) = .ok (.extInd (joinBytes h l), rest) ∧
    decodeIndexed (pb r.code true 0b0000#4 :: rest) = .error .illegalIndexedPostbyte ∧
    decodeIndexed (pb r.code true 0b0010#4 :: rest) = .error .illegalIndexedPostbyte) ∧
  (∀ (s : State) (r : IndexReg) (i : Bool) (n5 : BitVec 5) (n8 : Byte) (n16 : Word),
    let via (u : State) (ea0 : Word) : Word × State := if i then u.readWord ea0 else (ea0, u)
    let moved (by_ : Int) : State := s.setIndex r (s.getIndex r + BitVec.ofInt 16 by_)
    s.indexedEA (.off5 r n5) = (s.getIndex r + BitVec.ofInt 16 n5.toInt, s) ∧
    s.indexedEA (.off0 r i) = via s (s.getIndex r) ∧
    s.indexedEA (.off8 r n8 i) = via s (s.getIndex r + BitVec.ofInt 16 n8.toInt) ∧
    s.indexedEA (.off16 r n16 i) = via s (s.getIndex r + n16) ∧
    s.indexedEA (.accA r i) = via s (s.getIndex r + BitVec.ofInt 16 s.a.toInt) ∧
    s.indexedEA (.accB r i) = via s (s.getIndex r + BitVec.ofInt 16 s.b.toInt) ∧
    s.indexedEA (.accD r i) = via s (s.getIndex r + joinBytes s.a s.b) ∧
    s.indexedEA (.inc1 r) = (s.getIndex r, moved 1) ∧
    s.indexedEA (.inc2 r i) = via (moved 2) (s.getIndex r) ∧
    (s.indexedEA (.inc2 r i)).2.getIndex r = s.getIndex r + 2#16 ∧
    s.indexedEA (.dec1 r) = (s.getIndex r - 1#16, moved (-1)) ∧
    s.indexedEA (.dec2 r i) = via (moved (-2)) (s.getIndex r - 2#16) ∧
    (s.indexedEA (.dec2 r i)).2.getIndex r = s.getIndex r - 2#16 ∧
    s.indexedEA (.pcr8 n8 i) = via s (s.pc + BitVec.ofInt 16 n8.toInt) ∧
    s.indexedEA (.pcr16 n16 i) = via s (s.pc + n16) ∧
    s.indexedEA (.extInd n16) = s.readWord n16) ∧
  (∀ (s : State) (ix : Indexed), changesOnly (ix.written ++ [.devices, .draws]) s (s.indexedEA ix).2)

/-- The direct address has DP as its high byte and the extended address is the one written; an immediate operand is its
own value; a memory operand is read at its address after the address's side effects (30_encoding.md R77, R78, R82). -/
def Obligations.OperandsAreReadAtTheirAddresses : Prop :=
  ∀ (s : State) (off v : Byte) (addr w : Word) (ix : Indexed) (m : MemOperand),
    s.resolveEA (.dir off) = (joinBytes s.dp off, s) ∧ s.resolveEA (.ext addr) = (addr, s) ∧
    s.resolveEA (.idx ix) = s.indexedEA ix ∧
    s.operand8 (.imm v) = (v, s) ∧ s.operand8 (.mem m) = (s.resolveEA m).2.readByte (s.resolveEA m).1 ∧
    s.operand16 (.imm w) = (w, s) ∧ s.operand16 (.mem m) = (s.resolveEA m).2.readWord (s.resolveEA m).1 ∧
    changesOnly m.touched s (s.operand8 (.mem m)).2 ∧ changesOnly m.touched s (s.operand16 (.mem m)).2

/-- The side effects of an indexed form come before the instruction's own operation: `LEAX ,X+` leaves X, `LDX ,X++`
loads from the old address, `STX ,X++` stores the incremented X at the old address, `LDA ,-S` at S = $0000 reads $FFFF
(30_encoding.md R104). -/
def Obligations.AddressSideEffectsComeFirst : Prop :=
  (∀ s, ∃ t, exec (.leax (.inc1 .x)) s = .next t ∧ t.x = s.x) ∧
  (∀ s, ∃ t, exec (.ldx (.mem (.idx (.inc2 .x false)))) s = .next t ∧
    t.x = ((s.setX (s.x + 2#16)).readWord s.x).1) ∧
  (∀ s, s.mem.wf = true → s.ramAt s.x 2 → ∃ t, exec (.stx (.idx (.inc2 .x false))) s = .next t ∧
    t.x = s.x + 2#16 ∧ joinBytes (t.byteAt s.x) (t.byteAt (s.x + 1#16)) = s.x + 2#16) ∧
  (∀ s, s.s = 0x0000#16 → ∃ t, exec (.lda (.mem (.idx (.dec1 .s)))) s = .next t ∧ t.s = 0xFFFF#16 ∧
    t.a = ((s.setS 0xFFFF#16).readByte 0xFFFF#16).1)

/-- Device addresses see the accesses in the order the rules list them: CLR reads before it writes, TST reads and does not
write, STD writes the high byte first, PSHS the low byte first (20_memory.md R62, R57, 41_stack_push_pull.md R147). The
record, the model's own field (assumption log 4), lists the newest access first. -/
def Obligations.DevicesSeeAccessesInOrder : Prop :=
  (∀ s a, s.kindAt a = .device → ∃ t, exec (.clr (.ext a)) s = .next t ∧
    t.deviceLog = .write a 0x00#8 :: .read a (s.readByte a).1 :: s.deviceLog) ∧
  (∀ s a, s.kindAt a = .device → ∃ t, exec (.tst (.ext a)) s = .next t ∧
    t.deviceLog = .read a (s.readByte a).1 :: s.deviceLog) ∧
  (∀ s a, s.kindAt a = .device → s.kindAt (a + 1#16) = .device → ∃ t, exec (.std (.ext a)) s = .next t ∧
    t.deviceLog = .write (a + 1#16) s.b :: .write a s.a :: s.deviceLog) ∧
  (∀ s, s.kindAt (s.s - 1#16) = .device → s.kindAt (s.s - 2#16) = .device →
    ∃ t, exec (.pshs 0x10#8) s = .next t ∧
      t.deviceLog = .write (s.s - 2#16) (highByte s.x) :: .write (s.s - 1#16) (lowByte s.x) :: s.deviceLog)

/-! ## Data transfer -/

/-- The seven loads: the register takes the operand, N and Z come from it, V is cleared, nothing else changes; LDS arms
NMI (40_data_transfer.md R123 to R130). -/
def Obligations.LoadsSetRegisterAndFlags : Prop :=
  (operandForms8 .lda [] 0x86#8 0x96#8 0xA6#8 0xB6#8 ∧ loads8 .lda .a State.a) ∧
  (operandForms8 .ldb [] 0xC6#8 0xD6#8 0xE6#8 0xF6#8 ∧ loads8 .ldb .b State.b) ∧
  (operandForms16 .ldd [] 0xCC#8 0xDC#8 0xEC#8 0xFC#8 ∧ loads16 .ldd [.a, .b] State.d) ∧
  (operandForms16 .ldx [] 0x8E#8 0x9E#8 0xAE#8 0xBE#8 ∧ loads16 .ldx [.x] State.x) ∧
  (operandForms16 .ldy [0x10#8] 0x8E#8 0x9E#8 0xAE#8 0xBE#8 ∧ loads16 .ldy [.y] State.y) ∧
  (operandForms16 .ldu [] 0xCE#8 0xDE#8 0xEE#8 0xFE#8 ∧ loads16 .ldu [.u] State.u) ∧
  (operandForms16 .lds [0x10#8] 0xCE#8 0xDE#8 0xEE#8 0xFE#8 ∧ loads16 .lds [.s, .nmiArmed] State.s ∧
    ∀ op s t, exec (.lds op) s = .next t → t.nmiArmed = true)

/-- The seven stores: the register's byte or bytes at the address, high byte first, N and Z from the value, V cleared,
the register and everything else unchanged (40_data_transfer.md R131 to R138). -/
def Obligations.StoresWriteRegisterAndFlags : Prop :=
  (memoryForms .sta [] 0x97#8 0xA7#8 0xB7#8 ∧ stores8 .sta State.a) ∧
  (memoryForms .stb [] 0xD7#8 0xE7#8 0xF7#8 ∧ stores8 .stb State.b) ∧
  (memoryForms .std [] 0xDD#8 0xED#8 0xFD#8 ∧ stores16 .std State.d) ∧
  (memoryForms .stx [] 0x9F#8 0xAF#8 0xBF#8 ∧ stores16 .stx State.x) ∧
  (memoryForms .sty [0x10#8] 0x9F#8 0xAF#8 0xBF#8 ∧ stores16 .sty State.y) ∧
  (memoryForms .stu [] 0xDF#8 0xEF#8 0xFF#8 ∧ stores16 .stu State.u) ∧
  (memoryForms .sts [0x10#8] 0xDF#8 0xEF#8 0xFF#8 ∧ stores16 .sts State.s)

/-- EXG swaps two registers of one size and TFR copies the first into the second, PC being the address of the next
instruction; mixed sizes and unassigned codes are refused (40_data_transfer.md R121, R122). S written so is a load of S under
`any_write_to_S` alone (60_exceptions.md R331); that this holds for EXG S,S and TFR S,S, which write S its own value, is the
model's reading (assumption log 7, DEDUCED). -/
def Obligations.ExchangesAndTransfers : Prop :=
  (∀ p q s, ∃ t, exec (.exg (.r16 p) (.r16 q)) s = .next t ∧ t.getReg16 p = s.getReg16 q ∧ t.getReg16 q = s.getReg16 p ∧
    armsIf (p == .s || q == .s) s t ∧ changesOnly (.nmiArmed :: parts16 p ++ parts16 q) s t) ∧
  (∀ p q s, ∃ t, exec (.exg (.r8 p) (.r8 q)) s = .next t ∧ t.getReg8 p = s.getReg8 q ∧ t.getReg8 q = s.getReg8 p ∧
    changesOnly (parts8 p ++ parts8 q) s t) ∧
  (∀ p q s, ∃ t, exec (.tfr (.r16 p) (.r16 q)) s = .next t ∧ t.getReg16 q = s.getReg16 p ∧
    armsIf (q == .s) s t ∧ changesOnly (.nmiArmed :: parts16 q) s t) ∧
  (∀ p q s, ∃ t, exec (.tfr (.r8 p) (.r8 q)) s = .next t ∧ t.getReg8 q = s.getReg8 p ∧ changesOnly (parts8 q) s t) ∧
  (∀ r1 r2 s, r1.sameSize r2 = false →
    exec (.exg r1 r2) s = .refused .illegalRegisterPostbyte ∧ exec (.tfr r1 r2) s = .refused .illegalRegisterPostbyte) ∧
  (∀ r1 r2, r1.sameSize r2 = true →
    decodesTo [0x1E#8, r1.code ++ r2.code] (.exg r1 r2) ∧ decodesTo [0x1F#8, r1.code ++ r2.code] (.tfr r1 r2)) ∧
  (∀ pb rest e, decodeRegisterPostbyte pb = .error e →
    decode (0x1E#8 :: pb :: rest) = .error e ∧ decode (0x1F#8 :: pb :: rest) = .error e)

/-! ## Stack -/

/-- PSHS and PSHU store the selected registers downwards from the stack pointer, PC first and CC last, the low byte of
each 16-bit register first, and change nothing else (41_stack_push_pull.md R141 to R144). -/
def Obligations.PushesStoreTheSelectedRegisters : Prop :=
  (∀ pb, decodesTo [0x34#8, pb] (.pshs pb) ∧ decodesTo [0x36#8, pb] (.pshu pb)) ∧
  pushes .pshs .s .s State.u ∧ pushes .pshu .u .u State.s

/-- PULS and PULU load the selected registers upwards from the stack pointer, CC first and PC last, and change nothing
else; PULU with the S bit is a load of S (41_stack_push_pull.md R142, R145, R146). -/
def Obligations.PullsLoadTheSelectedRegisters : Prop :=
  (∀ pb, decodesTo [0x35#8, pb] (.puls pb) ∧ decodesTo [0x37#8, pb] (.pulu pb)) ∧
  pulls .puls .s .s State.u [.u] false ∧ pulls .pulu .u .u State.s [.s, .nmiArmed] true

/-- A pull with the postbyte of the push before it gives back every register it pushed and the stack pointer, when the
stack lies in RAM (41_stack_push_pull.md R142). -/
def Obligations.PullAfterPushRestores : Prop :=
  (∀ pb s, s.mem.wf = true → s.ramAt (s.s - 12#16) 12 →
    ∃ t r, exec (.pshs pb) s = .next t ∧ exec (.puls pb) t = .next r ∧ changesOnly [.mem] s r) ∧
  (∀ pb s, s.mem.wf = true → s.ramAt (s.u - 12#16) 12 →
    ∃ t r, exec (.pshu pb) s = .next t ∧ exec (.pulu pb) t = .next r ∧ changesOnly [.mem, .nmiArmed] s r)

/-! ## Arithmetic -/

/-- The 8-bit additions, with and without the carry (42_arithmetic.md R151, R152, R154, R155). -/
def Obligations.EightBitAdditions : Prop :=
  (operandForms8 .adda [] 0x8B#8 0x9B#8 0xAB#8 0xBB#8 ∧ adds8 .adda .a State.a (fun _ => false)) ∧
  (operandForms8 .addb [] 0xCB#8 0xDB#8 0xEB#8 0xFB#8 ∧ adds8 .addb .b State.b (fun _ => false)) ∧
  (operandForms8 .adca [] 0x89#8 0x99#8 0xA9#8 0xB9#8 ∧ adds8 .adca .a State.a (fun s => ccGet s.cc .c)) ∧
  (operandForms8 .adcb [] 0xC9#8 0xD9#8 0xE9#8 0xF9#8 ∧ adds8 .adcb .b State.b (fun s => ccGet s.cc .c))

/-- The 8-bit subtractions, with and without the borrow, H undefined (42_arithmetic.md R159, R160, R162, R163). -/
def Obligations.EightBitSubtractions : Prop :=
  (operandForms8 .suba [] 0x80#8 0x90#8 0xA0#8 0xB0#8 ∧ subtracts8 .suba .a State.a (fun _ => false)) ∧
  (operandForms8 .subb [] 0xC0#8 0xD0#8 0xE0#8 0xF0#8 ∧ subtracts8 .subb .b State.b (fun _ => false)) ∧
  (operandForms8 .sbca [] 0x82#8 0x92#8 0xA2#8 0xB2#8 ∧ subtracts8 .sbca .a State.a (fun s => ccGet s.cc .c)) ∧
  (operandForms8 .sbcb [] 0xC2#8 0xD2#8 0xE2#8 0xF2#8 ∧ subtracts8 .sbcb .b State.b (fun s => ccGet s.cc .c))

/-- ADDD and SUBD: the sum and the difference modulo 2^16 with N, Z, V, C, H unchanged (42_arithmetic.md R153, R161). -/
def Obligations.SixteenBitSumAndDifference : Prop :=
  operandForms16 .addd [] 0xC3#8 0xD3#8 0xE3#8 0xF3#8 ∧ operandForms16 .subd [] 0x83#8 0x93#8 0xA3#8 0xB3#8 ∧
  (∀ op s, ∃ t, exec (.addd op) s = .next t ∧
    (let m := (s.operand16 op).1
     t.d.toNat = (s.d.toNat + m.toNat) % 65536 ∧ ccGet t.cc .c = decide (65536 ≤ s.d.toNat + m.toNat) ∧
     nzvAre t t.d.msb (t.d == 0#16) (!fits16 (s.d.toInt + m.toInt))) ∧
    changesAfter (.a :: .b :: nzvc) op.touched s (s.operand16 op).2 t) ∧
  (∀ op s, ∃ t, exec (.subd op) s = .next t ∧ t.d = s.d - (s.operand16 op).1 ∧
    differenceFlags16 t s.d (s.operand16 op).1 ∧
    changesAfter (.a :: .b :: nzvc) op.touched s (s.operand16 op).2 t)

/-- ABX adds B to X as an unsigned number and writes no flag; NOP changes nothing (42_arithmetic.md R156,
45_inc_dec_clr_com_neg_nop.md R216). -/
def Obligations.AbxAddsUnsignedAndNopDoesNothing : Prop :=
  decodesTo [0x3A#8] .abx ∧
  (∀ s, ∃ t, exec .abx s = .next t ∧ t.x.toNat = (s.x.toNat + s.b.toNat) % 65536 ∧ changesOnly [.x] s t) ∧
  decodesTo [0x12#8] .nop ∧ ∀ s, exec .nop s = .next s

/-- MUL puts the unsigned product of A and B in D, Z from it and C its bit 7, H, N, V unchanged (42_arithmetic.md R158). -/
def Obligations.MulIsTheUnsignedProduct : Prop :=
  decodesTo [0x3D#8] .mul ∧
  ∀ s, ∃ t, exec .mul s = .next t ∧ t.d.toNat = s.a.toNat * s.b.toNat ∧
    ccGet t.cc .z = decide (s.a.toNat * s.b.toNat = 0) ∧ ccGet t.cc .c = t.b.getLsbD 7 ∧
    changesOnly [.a, .b, .flag .z, .flag .c] s t

/-- SEX turns the signed 8-bit number in B into the same 16-bit number in D, N and Z from it, V, C, H unchanged
(42_arithmetic.md R164). -/
def Obligations.SexExtendsTheSignOfB : Prop :=
  decodesTo [0x1D#8] .sex ∧
  ∀ s, ∃ t, exec .sex s = .next t ∧ t.d.toInt = s.b.toInt ∧ t.b = s.b ∧ ccGet t.cc .n = s.b.getLsbD 7 ∧
    ccGet t.cc .z = (s.b == 0#8) ∧ changesOnly [.a, .flag .n, .flag .z] s t

/-- DAA adds the correction of its rule, C is the old C or the carry out, N and Z come from the result, V is undefined and
H unchanged (42_arithmetic.md R157). -/
def Obligations.DaaAddsItsCorrection : Prop :=
  decodesTo [0x19#8] .daa ∧
  ∀ s, ∃ t, exec .daa s = .next t ∧
    (let lo := s.a.toNat % 16
     let hi := s.a.toNat / 16
     let low := if ccGet s.cc .h = true ∨ lo > 9 then 6 else 0
     let high := if ccGet s.cc .c = true ∨ hi > 9 ∨ (hi > 8 ∧ lo > 9) then 96 else 0
     t.a.toNat = (s.a.toNat + (low + high)) % 256 ∧
     ccGet t.cc .c = (ccGet s.cc .c || decide (256 ≤ s.a.toNat + (low + high)))) ∧
    ccGet t.cc .n = t.a.msb ∧ ccGet t.cc .z = (t.a == 0#8) ∧ leavesUndefined .v s t ∧
    changesOnly (.a :: .draws :: nzvc) s t

/-- After ADDA or ADCA of two packed decimal bytes DAA leaves their decimal sum in A and its carry in C
(42_arithmetic.md R157). -/
def Obligations.DaaGivesTheDecimalSum : Prop :=
  let bcd (n : Nat) : Byte := BitVec.ofNat 8 (n / 10 * 16 + n % 10)
  ∀ (s : State) (op : Operand8) (p q : Nat), p < 100 → q < 100 → s.a = bcd p → (s.operand8 op).1 = bcd q →
    (∃ t u, exec (.adda op) s = .next t ∧ exec .daa t = .next u ∧
      u.a = bcd ((p + q) % 100) ∧ ccGet u.cc .c = decide (100 ≤ p + q)) ∧
    (∃ t u, exec (.adca op) s = .next t ∧ exec .daa t = .next u ∧
      u.a = bcd ((p + q + (ccGet s.cc .c).toNat) % 100) ∧
      ccGet u.cc .c = decide (100 ≤ p + q + (ccGet s.cc .c).toNat))

/-! ## Logic -/

/-- AND, EOR and OR of an accumulator with its operand (43_logic.md R170 to R176). -/
def Obligations.LogicOnAccumulators : Prop :=
  (operandForms8 .anda [] 0x84#8 0x94#8 0xA4#8 0xB4#8 ∧ combines8 .anda .a State.a (· &&& ·)) ∧
  (operandForms8 .andb [] 0xC4#8 0xD4#8 0xE4#8 0xF4#8 ∧ combines8 .andb .b State.b (· &&& ·)) ∧
  (operandForms8 .eora [] 0x88#8 0x98#8 0xA8#8 0xB8#8 ∧ combines8 .eora .a State.a (· ^^^ ·)) ∧
  (operandForms8 .eorb [] 0xC8#8 0xD8#8 0xE8#8 0xF8#8 ∧ combines8 .eorb .b State.b (· ^^^ ·)) ∧
  (operandForms8 .ora [] 0x8A#8 0x9A#8 0xAA#8 0xBA#8 ∧ combines8 .ora .a State.a (· ||| ·)) ∧
  (operandForms8 .orb [] 0xCA#8 0xDA#8 0xEA#8 0xFA#8 ∧ combines8 .orb .b State.b (· ||| ·))

/-- ANDCC clears the flags whose mask bit is 0, ORCC sets those whose mask bit is 1, and nothing else changes
(43_logic.md R177, R178). -/
def Obligations.AndccClearsAndOrccSets : Prop :=
  (∀ m, decodesTo [0x1C#8, m] (.andcc m) ∧ decodesTo [0x1A#8, m] (.orcc m)) ∧
  (∀ m s, ∃ t, exec (.andcc m) s = .next t ∧ (∀ fl, ccGet t.cc fl = (ccGet s.cc fl && m.getLsbD fl.bit)) ∧
    changesOnly allFlags s t) ∧
  (∀ m s, ∃ t, exec (.orcc m) s = .next t ∧ (∀ fl, ccGet t.cc fl = (ccGet s.cc fl || m.getLsbD fl.bit)) ∧
    changesOnly allFlags s t)

/-! ## Shifts, rotates and the single-operand instructions -/

/-- ASR, LSR and ROR on A, on B and on memory (44_shift_rotate.md R183 to R185, R189 to R191, R195 to R197). -/
def Obligations.RightShiftsAndRotates : Prop :=
  (decodesTo [0x47#8] .asra ∧ asrOp.onAcc .asra .a State.a) ∧ (decodesTo [0x57#8] .asrb ∧ asrOp.onAcc .asrb .b State.b) ∧
  (memoryForms .asr [] 0x07#8 0x67#8 0x77#8 ∧ asrOp.onMemory .asr) ∧
  (decodesTo [0x44#8] .lsra ∧ lsrOp.onAcc .lsra .a State.a) ∧ (decodesTo [0x54#8] .lsrb ∧ lsrOp.onAcc .lsrb .b State.b) ∧
  (memoryForms .lsr [] 0x04#8 0x64#8 0x74#8 ∧ lsrOp.onMemory .lsr) ∧
  (decodesTo [0x46#8] .rora ∧ rorOp.onAcc .rora .a State.a) ∧ (decodesTo [0x56#8] .rorb ∧ rorOp.onAcc .rorb .b State.b) ∧
  (memoryForms .ror [] 0x06#8 0x66#8 0x76#8 ∧ rorOp.onMemory .ror)

/-- ASL and ROL on A, on B and on memory (44_shift_rotate.md R186 to R188, R192 to R194). -/
def Obligations.LeftShiftsAndRotates : Prop :=
  (decodesTo [0x48#8] .asla ∧ aslOp.onAcc .asla .a State.a) ∧ (decodesTo [0x58#8] .aslb ∧ aslOp.onAcc .aslb .b State.b) ∧
  (memoryForms .asl [] 0x08#8 0x68#8 0x78#8 ∧ aslOp.onMemory .asl) ∧
  (decodesTo [0x49#8] .rola ∧ rolOp.onAcc .rola .a State.a) ∧ (decodesTo [0x59#8] .rolb ∧ rolOp.onAcc .rolb .b State.b) ∧
  (memoryForms .rol [] 0x09#8 0x69#8 0x79#8 ∧ rolOp.onMemory .rol)

/-- CLR, DEC and INC on A, on B and on memory (45_inc_dec_clr_com_neg_nop.md R201 to R209). -/
def Obligations.ClearDecrementIncrement : Prop :=
  (decodesTo [0x4F#8] .clra ∧ clrOp.onAcc .clra .a State.a) ∧ (decodesTo [0x5F#8] .clrb ∧ clrOp.onAcc .clrb .b State.b) ∧
  (memoryForms .clr [] 0x0F#8 0x6F#8 0x7F#8 ∧ clrOp.onMemory .clr) ∧
  (decodesTo [0x4A#8] .deca ∧ decOp.onAcc .deca .a State.a) ∧ (decodesTo [0x5A#8] .decb ∧ decOp.onAcc .decb .b State.b) ∧
  (memoryForms .dec [] 0x0A#8 0x6A#8 0x7A#8 ∧ decOp.onMemory .dec) ∧
  (decodesTo [0x4C#8] .inca ∧ incOp.onAcc .inca .a State.a) ∧ (decodesTo [0x5C#8] .incb ∧ incOp.onAcc .incb .b State.b) ∧
  (memoryForms .inc [] 0x0C#8 0x6C#8 0x7C#8 ∧ incOp.onMemory .inc)

/-- COM and NEG on A, on B and on memory (45_inc_dec_clr_com_neg_nop.md R210 to R215). -/
def Obligations.ComplementAndNegate : Prop :=
  (decodesTo [0x43#8] .coma ∧ comOp.onAcc .coma .a State.a) ∧ (decodesTo [0x53#8] .comb ∧ comOp.onAcc .comb .b State.b) ∧
  (memoryForms .com [] 0x03#8 0x63#8 0x73#8 ∧ comOp.onMemory .com) ∧
  (decodesTo [0x40#8] .nega ∧ negOp.onAcc .nega .a State.a) ∧ (decodesTo [0x50#8] .negb ∧ negOp.onAcc .negb .b State.b) ∧
  (memoryForms .neg [] 0x00#8 0x60#8 0x70#8 ∧ negOp.onMemory .neg)

/-! ## Tests, compares and branches -/

/-- BIT and TST write N, Z and V and nothing else; TST on memory reads its byte once (46_test_compare.md R221, R222,
R230 to R232). -/
def Obligations.BitTestsAndTests : Prop :=
  (operandForms8 .bita [] 0x85#8 0x95#8 0xA5#8 0xB5#8 ∧ testsBits .bita State.a) ∧
  (operandForms8 .bitb [] 0xC5#8 0xD5#8 0xE5#8 0xF5#8 ∧ testsBits .bitb State.b) ∧
  (decodesTo [0x4D#8] .tsta ∧ ∀ s, ∃ t, exec .tsta s = .next t ∧ nzvAre t s.a.msb (s.a == 0#8) false ∧ changesOnly nzv s t) ∧
  (decodesTo [0x5D#8] .tstb ∧ ∀ s, ∃ t, exec .tstb s = .next t ∧ nzvAre t s.b.msb (s.b == 0#8) false ∧ changesOnly nzv s t) ∧
  (memoryForms .tst [] 0x0D#8 0x6D#8 0x7D#8 ∧
    ∀ m s, ∃ t, exec (.tst m) s = .next t ∧ nzvAre t (found m s).msb (found m s == 0#8) false ∧
      changesAfter nzv m.touched s ((s.resolveEA m).2.readByte (s.resolveEA m).1).2 t)

/-- The compares write the flags of the subtraction and nothing else: no register, no byte of memory
(46_test_compare.md R223 to R229). -/
def Obligations.ComparesWriteFlagsOnly : Prop :=
  (operandForms8 .cmpa [] 0x81#8 0x91#8 0xA1#8 0xB1#8 ∧ compares8 .cmpa State.a) ∧
  (operandForms8 .cmpb [] 0xC1#8 0xD1#8 0xE1#8 0xF1#8 ∧ compares8 .cmpb State.b) ∧
  (operandForms16 .cmpd [0x10#8] 0x83#8 0x93#8 0xA3#8 0xB3#8 ∧ compares16 .cmpd State.d) ∧
  (operandForms16 .cmpx [] 0x8C#8 0x9C#8 0xAC#8 0xBC#8 ∧ compares16 .cmpx State.x) ∧
  (operandForms16 .cmpy [0x10#8] 0x8C#8 0x9C#8 0xAC#8 0xBC#8 ∧ compares16 .cmpy State.y) ∧
  (operandForms16 .cmpu [0x11#8] 0x83#8 0x93#8 0xA3#8 0xB3#8 ∧ compares16 .cmpu State.u) ∧
  (operandForms16 .cmps [0x11#8] 0x8C#8 0x9C#8 0xAC#8 0xBC#8 ∧ compares16 .cmps State.s)

/-- After a compare or a subtraction of `m` from `r`, Z, C and N xor V say equality, the unsigned and the signed order, and
so do the branches; after TST the signed branches compare with zero, and HI is NE only where C is 0
(46_test_compare.md R233). -/
def Obligations.BranchesAfterCompareFollowTheOrder : Prop :=
  let order (t : State) (eq ltu lts : Bool) : Prop :=
    ccGet t.cc .z = eq ∧ ccGet t.cc .c = ltu ∧ (ccGet t.cc .n ^^ ccGet t.cc .v) = lts ∧
    condHolds t.cc .eq = eq ∧ condHolds t.cc .ne = !eq ∧ condHolds t.cc .cs = ltu ∧ condHolds t.cc .cc = !ltu ∧
    condHolds t.cc .ls = (ltu || eq) ∧ condHolds t.cc .hi = !(ltu || eq) ∧
    condHolds t.cc .lt = lts ∧ condHolds t.cc .ge = !lts ∧ condHolds t.cc .le = (lts || eq) ∧
    condHolds t.cc .gt = !(lts || eq)
  let order8 (k : Operand8 → Instr) (get : State → Byte) : Prop :=
    ∀ op s, ∃ t, exec (k op) s = .next t ∧
      order t (get s == (s.operand8 op).1) (decide ((get s).toNat < (s.operand8 op).1.toNat))
        (decide ((get s).toInt < (s.operand8 op).1.toInt))
  let order16 (k : Operand16 → Instr) (get : State → Word) : Prop :=
    ∀ op s, ∃ t, exec (k op) s = .next t ∧
      order t (get (s.operand16 op).2 == (s.operand16 op).1)
        (decide ((get (s.operand16 op).2).toNat < (s.operand16 op).1.toNat))
        (decide ((get (s.operand16 op).2).toInt < (s.operand16 op).1.toInt))
  let tested (i : Instr) (v : State → Byte) : Prop :=
    ∀ s, ∃ t, exec i s = .next t ∧ condHolds t.cc .lt = decide ((v s).toInt < 0) ∧
      condHolds t.cc .ge = decide (0 ≤ (v s).toInt) ∧ condHolds t.cc .gt = decide (0 < (v s).toInt) ∧
      condHolds t.cc .le = decide ((v s).toInt ≤ 0) ∧
      condHolds t.cc .hi = (condHolds t.cc .ne && !ccGet s.cc .c)
  (order8 .cmpa State.a ∧ order8 .cmpb State.b ∧ order8 .suba State.a ∧ order8 .subb State.b) ∧
  (order16 .cmpd State.d ∧ order16 .cmpx State.x ∧ order16 .cmpy State.y ∧ order16 .cmpu State.u ∧
    order16 .cmps State.s ∧ order16 .subd State.d) ∧
  (tested .tsta State.a ∧ tested .tstb State.b ∧ ∀ m, tested (.tst m) (found m))

/-- The sixteen short and the sixteen long branches: opcode, formula on N, Z, V, C, and the displacement added to the
address of the next instruction when it holds; nothing but PC changes, and the conditions come in pairs that exclude
each other (47_branches.md R241, R242, R243). -/
def Obligations.BranchesFollowTheirConditions : Prop :=
  (∀ r ∈ branchTable,
    (∀ d, decodesTo [r.shortOpcode, d] (r.short d) ∧ r.branches (r.short d) d.toInt) ∧
    (∀ h l, decodesTo (r.longOpcode ++ [h, l]) (r.long (joinBytes h l)) ∧
      r.branches (r.long (joinBytes h l)) (joinBytes h l).toInt)) ∧
  (∀ r ∈ branchTable, ∀ s, condHolds s.cc r.cond = r.taken s) ∧
  (∀ cc, (condHolds cc .always = !condHolds cc .never) ∧ (condHolds cc .hi = !condHolds cc .ls) ∧
    (condHolds cc .cc = !condHolds cc .cs) ∧ (condHolds cc .ne = !condHolds cc .eq) ∧
    (condHolds cc .vc = !condHolds cc .vs) ∧ (condHolds cc .pl = !condHolds cc .mi) ∧
    (condHolds cc .ge = !condHolds cc .lt) ∧ (condHolds cc .gt = !condHolds cc .le))

/-! ## Jumps, subroutines, LEA -/

/-- JMP goes to the effective address; JSR, BSR and LBSR push the address of the next instruction on S, low byte first,
and go to the target, computed before the push; nothing else changes (48_jumps_subroutines_lea.md R281 to R284). -/
def Obligations.JumpsAndCalls : Prop :=
  memoryForms .jmp [] 0x0E#8 0x6E#8 0x7E#8 ∧ memoryForms .jsr [] 0x9D#8 0xAD#8 0xBD#8 ∧
  (∀ d, decodesTo [0x8D#8, d] (.bsr d)) ∧ (∀ h l, decodesTo [0x17#8, h, l] (.lbsr (joinBytes h l))) ∧
  (∀ m s, ∃ t, exec (.jmp m) s = .next t ∧ t.pc = (s.resolveEA m).1 ∧
    changesAfter [.pc] m.touched s (s.resolveEA m).2 t) ∧
  (∀ m s, s.mem.wf = true → ∃ t, exec (.jsr m) s = .next t ∧ callsFrom (s.resolveEA m).2 t (s.resolveEA m).1 ∧
    keepsOutside s t (pushedBytes (s.resolveEA m).2.s [lowByte s.pc, highByte s.pc]) ∧
    changesAfter [.pc, .s, .mem, .devices] m.touched s (s.resolveEA m).2 t) ∧
  (∀ (d : Byte) s, s.mem.wf = true → ∃ t, exec (.bsr d) s = .next t ∧
    callsFrom s t (s.pc + BitVec.ofInt 16 d.toInt) ∧ changesOnly [.pc, .s, .mem, .devices] s t) ∧
  (∀ (d : Word) s, s.mem.wf = true → ∃ t, exec (.lbsr d) s = .next t ∧
    callsFrom s t (s.pc + d) ∧ changesOnly [.pc, .s, .mem, .devices] s t)

/-- RTS pulls PC from S (48_jumps_subroutines_lea.md R285), and after a call it returns to the instruction after the call
with S as it was, when the stack lies in RAM (R286): everything but memory is then as it was before a BSR or LBSR, and as it
was once a JSR had its address. -/
def Obligations.RtsPullsPcAndUndoesACall : Prop :=
  decodesTo [0x39#8] .rts ∧
  (∀ s, ∃ t, exec .rts s = .next t ∧ t.pc = (s.readWord s.s).1 ∧ t.s = s.s + 2#16 ∧
    t.deviceLog = (s.readWord s.s).2.deviceLog ∧ t.draws = (s.readWord s.s).2.draws ∧
    changesOnly [.pc, .s, .devices, .draws] s t) ∧
  (∀ m s, s.mem.wf = true → s.ramAt ((s.resolveEA m).2.s - 2#16) 2 →
    ∃ t r, exec (.jsr m) s = .next t ∧ exec .rts t = .next r ∧ r.pc = s.pc ∧
      changesOnly [.mem] (s.resolveEA m).2 r) ∧
  (∀ (d : Byte) s, s.mem.wf = true → s.ramAt (s.s - 2#16) 2 →
    ∃ t r, exec (.bsr d) s = .next t ∧ exec .rts t = .next r ∧ changesOnly [.mem] s r) ∧
  (∀ (d : Word) s, s.mem.wf = true → s.ramAt (s.s - 2#16) 2 →
    ∃ t r, exec (.lbsr d) s = .next t ∧ exec .rts t = .next r ∧ changesOnly [.mem] s r)

/-- LEA puts the indexed address itself in the register; LEAX and LEAY write Z and no other flag, LEAS and LEAU none, LEAS
is a load of S (48_jumps_subroutines_lea.md R287 to R291). -/
def Obligations.LoadEffectiveAddress : Prop :=
  (∀ ix, decodesTo (0x30#8 :: encodeIndexed ix) (.leax ix) ∧ decodesTo (0x31#8 :: encodeIndexed ix) (.leay ix) ∧
    decodesTo (0x32#8 :: encodeIndexed ix) (.leas ix) ∧ decodesTo (0x33#8 :: encodeIndexed ix) (.leau ix)) ∧
  loadsAddress .leax [.x, .flag .z] State.x ∧ loadsAddress .leay [.y, .flag .z] State.y ∧
  loadsAddress .leas [.s, .nmiArmed] State.s ∧ loadsAddress .leau [.u] State.u ∧
  (∀ ix s t, (exec (.leax ix) s = .next t → ccGet t.cc .z = (t.x == 0#16)) ∧
    (exec (.leay ix) s = .next t → ccGet t.cc .z = (t.y == 0#16)) ∧
    (exec (.leas ix) s = .next t → armsIf true s t))

/-! ## Interrupts -/

/-- SWI, SWI2 and SWI3: E is set, the entire state is pushed with it, SWI then sets I and F, and PC comes from the vector
(49_interrupt_instructions.md R304 to R307). -/
def Obligations.SoftwareInterrupts : Prop :=
  (decodesTo [0x3F#8] .swi ∧ softwareInterrupt .swi [.e, .i, .f] 0xFFFA#16) ∧
  (decodesTo [0x10#8, 0x3F#8] .swi2 ∧ softwareInterrupt .swi2 [.e] 0xFFF4#16) ∧
  (decodesTo [0x11#8, 0x3F#8] .swi3 ∧ softwareInterrupt .swi3 [.e] 0xFFF2#16)

/-- RTI pulls CC and, by the E of the CC just pulled, the entire frame of twelve bytes or the short one of three
(49_interrupt_instructions.md R303). -/
def Obligations.RtiPullsByTheStackedE : Prop :=
  decodesTo [0x3B#8] .rti ∧
  (∀ s, ((s.readByte s.s).1.getLsbD 7 = true → ∃ t, exec .rti s = .next t ∧
      (let bytes := (s.readBytes s.s 12).1
       t.cc = byteOf bytes 0 ∧ t.a = byteOf bytes 1 ∧ t.b = byteOf bytes 2 ∧ t.dp = byteOf bytes 3 ∧
       t.x = wordOf bytes 4 ∧ t.y = wordOf bytes 6 ∧ t.u = wordOf bytes 8 ∧ t.pc = wordOf bytes 10) ∧
      t.s = s.s + 12#16 ∧ t.deviceLog = (s.readBytes s.s 12).2.deviceLog ∧
      t.draws = (s.readBytes s.s 12).2.draws ∧
      changesOnly ([.a, .b, .dp, .x, .y, .u, .pc, .s, .devices, .draws] ++ allFlags) s t)) ∧
  (∀ s, ((s.readByte s.s).1.getLsbD 7 = false → ∃ t, exec .rti s = .next t ∧
      (let bytes := (s.readBytes s.s 3).1
       t.cc = byteOf bytes 0 ∧ t.pc = wordOf bytes 1) ∧
      t.s = s.s + 3#16 ∧ t.deviceLog = (s.readBytes s.s 3).2.deviceLog ∧
      t.draws = (s.readBytes s.s 3).2.draws ∧
      changesOnly ([.pc, .s, .devices, .draws] ++ allFlags) s t))

/-- RTI undoes an entry: after SWI, SWI2 or SWI3, and after a step of the running machine that takes NMI, FIRQ or IRQ, RTI
gives back every register and every flag but E, PC and S among them, when the twelve bytes below S are RAM
(60_exceptions.md R336). The canonical form of memory and the RAM below S are premises; the record of device accesses and
the count of free values may grow, because the vector need not lie in memory. -/
def Obligations.InterruptThenRtiRestoresTheProgram : Prop :=
  ∀ s, s.mem.wf = true → s.ramAt (s.s - 12#16) 12 →
    (∀ i, i = .swi ∨ i = .swi2 ∨ i = .swi3 → ∃ t r, exec i s = .next t ∧ exec .rti t = .next r ∧
      changesOnly [.flag .e, .mem, .devices, .draws] s r) ∧
    (s.inputs.resetLow = false → s.waitState = .running → nmiLatched s ∨ firqPresent s ∨ irqPresent s →
      ∃ t r, step s = .next t ∧ exec .rti t = .next r ∧
        changesOnly [.flag .e, .nmiPending, .irqEnv, .mem, .devices, .draws] s r)

/-- CWAI clears the flags its mask names, sets E, pushes the entire state and waits; SYNC waits and pushes nothing
(49_interrupt_instructions.md R301, R302). -/
def Obligations.CwaiAndSyncWait : Prop :=
  (∀ m, decodesTo [0x3C#8, m] (.cwai m)) ∧ decodesTo [0x13#8] .sync ∧
  (∀ m s, s.mem.wf = true → ∃ t, exec (.cwai m) s = .next t ∧ t.waitState = .cwaiWait ∧
    t.cc = ccPut (s.cc &&& m) .e true ∧ t.s = s.s - 12#16 ∧
    storesBytes s t (pushedBytes s.s (s.entireFrame (ccPut (s.cc &&& m) .e true))) ∧
    changesOnly ([.s, .waitState, .mem, .devices] ++ allFlags) s t) ∧
  (∀ s, ∃ t, exec .sync s = .next t ∧ t.waitState = .syncWait ∧ changesOnly [.waitState] s t)

/-- The entry of NMI, of FIRQ and of IRQ at a step that is not a reset and not in CWAI, in that order of priority: frame,
masks, vector (60_exceptions.md R327, R329, R330, R332). -/
def Obligations.HardwareInterruptEntries : Prop :=
  ∀ s, s.mem.wf = true → s.inputs.resetLow = false → s.waitState ≠ .cwaiWait →
    (nmiLatched s → ∃ t, step s = .next t ∧ entersThrough s t (s.entireFrame (ccPut s.cc .e true)) 0xFFFC#16 ∧
      setsFlags [.e, .i, .f] s t ∧ t.nmiPending = false ∧ t.waitState = .running ∧ t.irqEnv = s.irqEnv.tail ∧
      changesOnly entryParts s t) ∧
    (¬nmiLatched s → firqPresent s → ∃ t, step s = .next t ∧
      entersThrough s t [lowByte s.pc, highByte s.pc, ccPut s.cc .e false] 0xFFF6#16 ∧
      ccGet t.cc .e = false ∧ ccGet t.cc .i = true ∧ ccGet t.cc .f = true ∧
      t.nmiPending = false ∧ t.waitState = .running ∧ t.irqEnv = s.irqEnv.tail ∧ changesOnly entryParts s t) ∧
    (¬nmiLatched s → ¬firqPresent s → irqPresent s → ∃ t, step s = .next t ∧
      entersThrough s t (s.entireFrame (ccPut s.cc .e true)) 0xFFF8#16 ∧ setsFlags [.e, .i] s t ∧
      t.nmiPending = false ∧ t.waitState = .running ∧ t.irqEnv = s.irqEnv.tail ∧ changesOnly entryParts s t)

/-- The wait states: SYNC stays while no line is low and no NMI is latched, and otherwise the step is the running
machine's; CWAI stays until an enabled interrupt, which pushes nothing and enters through its vector
(60_exceptions.md R334). -/
def Obligations.WaitStatesEndAsTheyShould : Prop :=
  (∀ s, s.inputs.resetLow = false → s.waitState = .syncWait →
    (¬nmiLatched s → s.inputs.firqLow = false → s.inputs.irqLow = false → step s = .next s.tickInputs) ∧
    ((nmiLatched s ∨ s.inputs.firqLow = true ∨ s.inputs.irqLow = true) → step s = step (s.setWait .running))) ∧
  (∀ s, s.inputs.resetLow = false → s.waitState = .cwaiWait →
    (¬nmiLatched s → ¬firqPresent s → ¬irqPresent s → step s = .next s.tickInputs) ∧
    (nmiLatched s → ∃ t, step s = .next t ∧ vectored s t 0xFFFC#16 ∧ setsFlags [.i, .f] s t ∧ t.nmiPending = false ∧
      t.waitState = .running ∧
      changesOnly [.pc, .flag .i, .flag .f, .nmiPending, .waitState, .irqEnv, .devices, .draws] s t) ∧
    (¬nmiLatched s → firqPresent s → ∃ t, step s = .next t ∧ vectored s t 0xFFF6#16 ∧ setsFlags [.i, .f] s t ∧
      t.waitState = .running ∧ changesOnly [.pc, .flag .i, .flag .f, .waitState, .irqEnv, .devices, .draws] s t) ∧
    (¬nmiLatched s → ¬firqPresent s → irqPresent s → ∃ t, step s = .next t ∧ vectored s t 0xFFF8#16 ∧
      setsFlags [.i] s t ∧ t.waitState = .running ∧
      changesOnly [.pc, .flag .i, .waitState, .irqEnv, .devices, .draws] s t))

/-- A reset, in every state and wait state: DP, the masks, the NMI bits and the wait state as the spec says, PC read from
$FFFE in the state `u` before the read, no byte of memory changed; the registers and flags the spec leaves unset are not
constrained. With the vector in RAM or ROM, PC is the word there (70_reset_and_hazards.md R361). -/
def Obligations.ResetStep : Prop :=
  ∀ s, s.inputs.resetLow = true → ∃ t, step s = .next t ∧ t.dp = 0x00#8 ∧ ccGet t.cc .i = true ∧ ccGet t.cc .f = true ∧
    t.nmiArmed = false ∧ t.nmiPending = false ∧ t.waitState = .running ∧ t.irqEnv = s.irqEnv.tail ∧ t.mem = s.mem ∧
    (∃ u, vectored u t 0xFFFE#16 ∧ changesOnly ([.a, .b, .x, .y, .u, .s, .pc, .dp, .nmiArmed, .nmiPending, .waitState,
      .irqEnv, .draws] ++ allFlags) s u) ∧
    (s.holdsBytes 0xFFFE#16 [s.byteAt 0xFFFE#16, s.byteAt 0xFFFF#16] →
      t.pc = joinBytes (s.byteAt 0xFFFE#16) (s.byteAt 0xFFFF#16) ∧ t.deviceLog = s.deviceLog) ∧
    changesOnly ([.a, .b, .x, .y, .u, .s, .pc, .dp, .nmiArmed, .nmiPending, .waitState, .irqEnv, .devices, .draws] ++
      allFlags) s t
end

