-- ==== Sys2Proof/Laws/Bits.lean ====
section
/-! SUPPORT. Laws of the halves of a word and of the bits of CC. -/

namespace Sys2Proof.Machine

@[simp] theorem highByte_joinBytes (h l : Byte) : highByte (joinBytes h l) = h := by
  apply BitVec.eq_of_getLsbD_eq
  intro i hi
  rw [highByte, joinBytes, BitVec.getLsbD_extractLsb', BitVec.getLsbD_append]
  simp [hi]

@[simp] theorem lowByte_joinBytes (h l : Byte) : lowByte (joinBytes h l) = l := by
  apply BitVec.eq_of_getLsbD_eq
  intro i hi
  rw [lowByte, joinBytes, BitVec.getLsbD_extractLsb', BitVec.getLsbD_append]
  simp [hi]

@[simp] theorem joinBytes_highByte_lowByte (w : Word) : joinBytes (highByte w) (lowByte w) = w := by
  apply BitVec.eq_of_getLsbD_eq
  intro i hi
  simp only [highByte, lowByte, joinBytes, BitVec.getLsbD_append, BitVec.getLsbD_extractLsb']
  by_cases h : i < 8
  · simp [h]
  · have h8 : i - 8 < 8 := by omega
    have e : 8 + (i - 8) = i := by omega
    simp [h, h8, e]

/-- A byte is fixed by its eight flags. -/
theorem byte_eq_of_flags (x y : Byte) (h : ∀ fl, ccGet x fl = ccGet y fl) : x = y := by
  apply BitVec.eq_of_getLsbD_eq
  intro i hi
  have := h .c; have := h .v; have := h .z; have := h .n
  have := h .i; have := h .h; have := h .f; have := h .e
  simp only [ccGet, Flag.bit] at *
  interval_cases i <;> assumption

/-- Writing one flag of CC: that flag takes the value and no other changes (00_scope.md R12). -/
@[simp] theorem ccGet_ccPut (cc : Byte) (fl gl : Flag) (v : Bool) :
    ccGet (ccPut cc fl v) gl = if gl = fl then v else ccGet cc gl := by
  cases v <;> cases fl <;> cases gl <;>
    simp [ccGet, ccPut, Flag.bit]

/-- `SetNZ8` flag by flag (00_scope.md R12). -/
theorem ccGet_setNZ8 (cc r : Byte) (fl : Flag) :
    ccGet (setNZ8 cc r) fl = if fl = .z then r == 0#8 else if fl = .n then r.msb else ccGet cc fl := by
  simp [setNZ8]

/-- `SetNZ16` flag by flag (00_scope.md R12). -/
theorem ccGet_setNZ16 (cc : Byte) (r : Word) (fl : Flag) :
    ccGet (setNZ16 cc r) fl = if fl = .z then r == 0#16 else if fl = .n then r.msb else ccGet cc fl := by
  simp [setNZ16]

/-- The flags of loads, stores, logic and tests, flag by flag (10_state.md R39). -/
theorem ccGet_logicFlags8 (cc r : Byte) (fl : Flag) :
    ccGet (logicFlags8 cc r) fl
      = if fl = .v then false else if fl = .z then r == 0#8 else if fl = .n then r.msb else ccGet cc fl := by
  simp [logicFlags8, setNZ8]

/-- As `ccGet_logicFlags8`, for a word. -/
theorem ccGet_logicFlags16 (cc : Byte) (r : Word) (fl : Flag) :
    ccGet (logicFlags16 cc r) fl
      = if fl = .v then false else if fl = .z then r == 0#16 else if fl = .n then r.msb else ccGet cc fl := by
  simp [logicFlags16, setNZ16]

end Sys2Proof.Machine
end

