-- ==== Sys2Proof/Laws/Memory.lean ====
section
/-! SUPPORT. The laws of memory: a read after a write, and that a write keeps the canonical form. -/

namespace Sys2Proof.Machine

/-- Nothing at or above an address that a well-formed memory starts after. -/
theorem Memory.get_of_wfFrom (m : Memory) : ∀ lo a, Memory.wfFrom lo m = true → a < lo → m.get a = Config.unlistedByte := by
  induction m with
  | nil => intros; rfl
  | cons e m ih =>
    obtain ⟨b, w⟩ := e
    intro lo a h hlt
    simp only [Memory.wfFrom, Bool.and_eq_true, decide_eq_true_eq] at h
    simp only [Memory.get]
    rw [if_neg (by omega), ih (b + 1) a h.2 (by omega)]

/-- A write gives its byte at its address and leaves every other address alone. -/
theorem Memory.get_put (m : Memory) (a : Nat) (v : Byte) :
    ∀ lo, Memory.wfFrom lo m = true → ∀ c, (m.put a v).get c = if c = a then v else m.get c := by
  induction m with
  | nil =>
    intro lo _ c
    unfold Memory.put
    by_cases hv : v = Config.unlistedByte <;> by_cases hc : c = a <;> simp [Memory.get, hv, hc]
  | cons e m ih =>
    obtain ⟨b, w⟩ := e
    intro lo h c
    simp only [Memory.wfFrom, Bool.and_eq_true, decide_eq_true_eq] at h
    unfold Memory.put
    by_cases h1 : a < b
    · rw [if_pos h1]
      by_cases hv : v = Config.unlistedByte
      · rw [if_pos hv]
        by_cases hc : c = a
        · subst hc
          rw [if_pos rfl, hv]
          show (if c = b then w else Memory.get m c) = _
          rw [if_neg (by omega)]
          exact Memory.get_of_wfFrom m (b + 1) c h.2 (by omega)
        · rw [if_neg hc]
      · rw [if_neg hv]
        rfl
    · rw [if_neg h1]
      by_cases h2 : a = b
      · rw [if_pos h2]
        subst h2
        by_cases hv : v = Config.unlistedByte
        · rw [if_pos hv]
          by_cases hc : c = a
          · subst hc
            rw [if_pos rfl, hv]
            exact Memory.get_of_wfFrom m (c + 1) c h.2 (by omega)
          · rw [if_neg hc]
            show _ = if c = a then w else Memory.get m c
            rw [if_neg hc]
        · rw [if_neg hv]
          show (if c = a then v else Memory.get m c) = if c = a then v else (if c = a then w else Memory.get m c)
          by_cases hc : c = a <;> simp [hc]
      · rw [if_neg h2]
        show (if c = b then w else Memory.get (Memory.put m a v) c) = if c = a then v else (if c = b then w else Memory.get m c)
        rw [ih (b + 1) h.2 c]
        by_cases hc : c = b
        · simp [hc, show b ≠ a from fun e => h2 e.symm]
        · simp [hc]

/-- The canonical form from one address on is the canonical form from any lower one. -/
theorem Memory.wfFrom_mono (m : Memory) (lo hi : Nat) (hle : lo ≤ hi) (h : Memory.wfFrom hi m = true) :
    Memory.wfFrom lo m = true := by
  cases m with
  | nil => rfl
  | cons e m =>
    obtain ⟨b, w⟩ := e
    simp only [Memory.wfFrom, Bool.and_eq_true, decide_eq_true_eq] at h ⊢
    exact ⟨⟨⟨by omega, h.1.1.2⟩, h.1.2⟩, h.2⟩

/-- A write keeps the canonical form. -/
theorem Memory.wfFrom_put (m : Memory) (a : Nat) (v : Byte) (ha : a < 65536) :
    ∀ lo, lo ≤ a → Memory.wfFrom lo m = true → Memory.wfFrom lo (m.put a v) = true := by
  induction m with
  | nil =>
    intro lo hlo _
    unfold Memory.put
    by_cases hv : v = Config.unlistedByte <;> simp [Memory.wfFrom, hv, hlo, ha]
  | cons e m ih =>
    obtain ⟨b, w⟩ := e
    intro lo hlo h
    have h' := h
    simp only [Memory.wfFrom, Bool.and_eq_true, decide_eq_true_eq] at h
    obtain ⟨⟨⟨hb, hb2⟩, hw⟩, hm⟩ := h
    unfold Memory.put
    by_cases h1 : a < b
    · rw [if_pos h1]
      by_cases hv : v = Config.unlistedByte
      · rw [if_pos hv]; exact h'
      · rw [if_neg hv]
        simp only [Memory.wfFrom, Bool.and_eq_true, decide_eq_true_eq]
        exact ⟨⟨⟨hlo, ha⟩, hv⟩, ⟨⟨by omega, hb2⟩, hw⟩, hm⟩
    · rw [if_neg h1]
      by_cases h2 : a = b
      · rw [if_pos h2]
        subst h2
        by_cases hv : v = Config.unlistedByte
        · rw [if_pos hv]
          exact Memory.wfFrom_mono m lo (a + 1) (by omega) hm
        · rw [if_neg hv]
          simp only [Memory.wfFrom, Bool.and_eq_true, decide_eq_true_eq]
          exact ⟨⟨⟨hlo, ha⟩, hv⟩, hm⟩
      · rw [if_neg h2]
        simp only [Memory.wfFrom, Bool.and_eq_true, decide_eq_true_eq]
        exact ⟨⟨⟨hb, hb2⟩, hw⟩, ih (b + 1) (by omega) hm⟩

/-- A write to an address of the space keeps the canonical form. -/
theorem Memory.wf_put (m : Memory) (a : Word) (v : Byte) (h : m.wf = true) : (m.put a.toNat v).wf = true :=
  Memory.wfFrom_put m a.toNat v a.isLt 0 (Nat.zero_le _) h

end Sys2Proof.Machine
end

