-- ==== Sys2Proof/Laws/State.lean ====
section
/-! SUPPORT. What each update of the state does to each field, one lemma per field and update, true by `rfl`. -/

namespace Sys2Proof.Machine

/-! ## setA -/

@[simp] theorem State.setA_a (st : State) (v : Byte) : (st.setA v).a = v := rfl

@[simp] theorem State.setA_b (st : State) (v : Byte) : (st.setA v).b = st.b := rfl

@[simp] theorem State.setA_x (st : State) (v : Byte) : (st.setA v).x = st.x := rfl

@[simp] theorem State.setA_y (st : State) (v : Byte) : (st.setA v).y = st.y := rfl

@[simp] theorem State.setA_u (st : State) (v : Byte) : (st.setA v).u = st.u := rfl

@[simp] theorem State.setA_s (st : State) (v : Byte) : (st.setA v).s = st.s := rfl

@[simp] theorem State.setA_pc (st : State) (v : Byte) : (st.setA v).pc = st.pc := rfl

@[simp] theorem State.setA_dp (st : State) (v : Byte) : (st.setA v).dp = st.dp := rfl

@[simp] theorem State.setA_cc (st : State) (v : Byte) : (st.setA v).cc = st.cc := rfl

@[simp] theorem State.setA_nmiArmed (st : State) (v : Byte) : (st.setA v).nmiArmed = st.nmiArmed := rfl

@[simp] theorem State.setA_nmiPending (st : State) (v : Byte) : (st.setA v).nmiPending = st.nmiPending := rfl

@[simp] theorem State.setA_waitState (st : State) (v : Byte) : (st.setA v).waitState = st.waitState := rfl

@[simp] theorem State.setA_mem (st : State) (v : Byte) : (st.setA v).mem = st.mem := rfl

@[simp] theorem State.setA_memMap (st : State) (v : Byte) : (st.setA v).memMap = st.memMap := rfl

@[simp] theorem State.setA_irqEnv (st : State) (v : Byte) : (st.setA v).irqEnv = st.irqEnv := rfl

@[simp] theorem State.setA_nmiArming (st : State) (v : Byte) : (st.setA v).nmiArming = st.nmiArming := rfl

@[simp] theorem State.setA_undefinedFlag (st : State) (v : Byte) : (st.setA v).undefinedFlag = st.undefinedFlag := rfl

@[simp] theorem State.setA_deviceLog (st : State) (v : Byte) : (st.setA v).deviceLog = st.deviceLog := rfl

@[simp] theorem State.setA_draws (st : State) (v : Byte) : (st.setA v).draws = st.draws := rfl

@[simp] theorem State.setA_kindAt (st : State) (v : Byte) (w : Word) : (st.setA v).kindAt w = st.kindAt w := rfl

/-! ## setB -/

@[simp] theorem State.setB_a (st : State) (v : Byte) : (st.setB v).a = st.a := rfl

@[simp] theorem State.setB_b (st : State) (v : Byte) : (st.setB v).b = v := rfl

@[simp] theorem State.setB_x (st : State) (v : Byte) : (st.setB v).x = st.x := rfl

@[simp] theorem State.setB_y (st : State) (v : Byte) : (st.setB v).y = st.y := rfl

@[simp] theorem State.setB_u (st : State) (v : Byte) : (st.setB v).u = st.u := rfl

@[simp] theorem State.setB_s (st : State) (v : Byte) : (st.setB v).s = st.s := rfl

@[simp] theorem State.setB_pc (st : State) (v : Byte) : (st.setB v).pc = st.pc := rfl

@[simp] theorem State.setB_dp (st : State) (v : Byte) : (st.setB v).dp = st.dp := rfl

@[simp] theorem State.setB_cc (st : State) (v : Byte) : (st.setB v).cc = st.cc := rfl

@[simp] theorem State.setB_nmiArmed (st : State) (v : Byte) : (st.setB v).nmiArmed = st.nmiArmed := rfl

@[simp] theorem State.setB_nmiPending (st : State) (v : Byte) : (st.setB v).nmiPending = st.nmiPending := rfl

@[simp] theorem State.setB_waitState (st : State) (v : Byte) : (st.setB v).waitState = st.waitState := rfl

@[simp] theorem State.setB_mem (st : State) (v : Byte) : (st.setB v).mem = st.mem := rfl

@[simp] theorem State.setB_memMap (st : State) (v : Byte) : (st.setB v).memMap = st.memMap := rfl

@[simp] theorem State.setB_irqEnv (st : State) (v : Byte) : (st.setB v).irqEnv = st.irqEnv := rfl

@[simp] theorem State.setB_nmiArming (st : State) (v : Byte) : (st.setB v).nmiArming = st.nmiArming := rfl

@[simp] theorem State.setB_undefinedFlag (st : State) (v : Byte) : (st.setB v).undefinedFlag = st.undefinedFlag := rfl

@[simp] theorem State.setB_deviceLog (st : State) (v : Byte) : (st.setB v).deviceLog = st.deviceLog := rfl

@[simp] theorem State.setB_draws (st : State) (v : Byte) : (st.setB v).draws = st.draws := rfl

@[simp] theorem State.setB_kindAt (st : State) (v : Byte) (w : Word) : (st.setB v).kindAt w = st.kindAt w := rfl

/-! ## setD -/

@[simp] theorem State.setD_a (st : State) (v : Word) : (st.setD v).a = highByte v := rfl

@[simp] theorem State.setD_b (st : State) (v : Word) : (st.setD v).b = lowByte v := rfl

@[simp] theorem State.setD_x (st : State) (v : Word) : (st.setD v).x = st.x := rfl

@[simp] theorem State.setD_y (st : State) (v : Word) : (st.setD v).y = st.y := rfl

@[simp] theorem State.setD_u (st : State) (v : Word) : (st.setD v).u = st.u := rfl

@[simp] theorem State.setD_s (st : State) (v : Word) : (st.setD v).s = st.s := rfl

@[simp] theorem State.setD_pc (st : State) (v : Word) : (st.setD v).pc = st.pc := rfl

@[simp] theorem State.setD_dp (st : State) (v : Word) : (st.setD v).dp = st.dp := rfl

@[simp] theorem State.setD_cc (st : State) (v : Word) : (st.setD v).cc = st.cc := rfl

@[simp] theorem State.setD_nmiArmed (st : State) (v : Word) : (st.setD v).nmiArmed = st.nmiArmed := rfl

@[simp] theorem State.setD_nmiPending (st : State) (v : Word) : (st.setD v).nmiPending = st.nmiPending := rfl

@[simp] theorem State.setD_waitState (st : State) (v : Word) : (st.setD v).waitState = st.waitState := rfl

@[simp] theorem State.setD_mem (st : State) (v : Word) : (st.setD v).mem = st.mem := rfl

@[simp] theorem State.setD_memMap (st : State) (v : Word) : (st.setD v).memMap = st.memMap := rfl

@[simp] theorem State.setD_irqEnv (st : State) (v : Word) : (st.setD v).irqEnv = st.irqEnv := rfl

@[simp] theorem State.setD_nmiArming (st : State) (v : Word) : (st.setD v).nmiArming = st.nmiArming := rfl

@[simp] theorem State.setD_undefinedFlag (st : State) (v : Word) : (st.setD v).undefinedFlag = st.undefinedFlag := rfl

@[simp] theorem State.setD_deviceLog (st : State) (v : Word) : (st.setD v).deviceLog = st.deviceLog := rfl

@[simp] theorem State.setD_draws (st : State) (v : Word) : (st.setD v).draws = st.draws := rfl

@[simp] theorem State.setD_kindAt (st : State) (v : Word) (w : Word) : (st.setD v).kindAt w = st.kindAt w := rfl

/-! ## setX -/

@[simp] theorem State.setX_a (st : State) (v : Word) : (st.setX v).a = st.a := rfl

@[simp] theorem State.setX_b (st : State) (v : Word) : (st.setX v).b = st.b := rfl

@[simp] theorem State.setX_x (st : State) (v : Word) : (st.setX v).x = v := rfl

@[simp] theorem State.setX_y (st : State) (v : Word) : (st.setX v).y = st.y := rfl

@[simp] theorem State.setX_u (st : State) (v : Word) : (st.setX v).u = st.u := rfl

@[simp] theorem State.setX_s (st : State) (v : Word) : (st.setX v).s = st.s := rfl

@[simp] theorem State.setX_pc (st : State) (v : Word) : (st.setX v).pc = st.pc := rfl

@[simp] theorem State.setX_dp (st : State) (v : Word) : (st.setX v).dp = st.dp := rfl

@[simp] theorem State.setX_cc (st : State) (v : Word) : (st.setX v).cc = st.cc := rfl

@[simp] theorem State.setX_nmiArmed (st : State) (v : Word) : (st.setX v).nmiArmed = st.nmiArmed := rfl

@[simp] theorem State.setX_nmiPending (st : State) (v : Word) : (st.setX v).nmiPending = st.nmiPending := rfl

@[simp] theorem State.setX_waitState (st : State) (v : Word) : (st.setX v).waitState = st.waitState := rfl

@[simp] theorem State.setX_mem (st : State) (v : Word) : (st.setX v).mem = st.mem := rfl

@[simp] theorem State.setX_memMap (st : State) (v : Word) : (st.setX v).memMap = st.memMap := rfl

@[simp] theorem State.setX_irqEnv (st : State) (v : Word) : (st.setX v).irqEnv = st.irqEnv := rfl

@[simp] theorem State.setX_nmiArming (st : State) (v : Word) : (st.setX v).nmiArming = st.nmiArming := rfl

@[simp] theorem State.setX_undefinedFlag (st : State) (v : Word) : (st.setX v).undefinedFlag = st.undefinedFlag := rfl

@[simp] theorem State.setX_deviceLog (st : State) (v : Word) : (st.setX v).deviceLog = st.deviceLog := rfl

@[simp] theorem State.setX_draws (st : State) (v : Word) : (st.setX v).draws = st.draws := rfl

@[simp] theorem State.setX_d (st : State) (v : Word) : (st.setX v).d = st.d := rfl

@[simp] theorem State.setX_kindAt (st : State) (v : Word) (w : Word) : (st.setX v).kindAt w = st.kindAt w := rfl

/-! ## setY -/

@[simp] theorem State.setY_a (st : State) (v : Word) : (st.setY v).a = st.a := rfl

@[simp] theorem State.setY_b (st : State) (v : Word) : (st.setY v).b = st.b := rfl

@[simp] theorem State.setY_x (st : State) (v : Word) : (st.setY v).x = st.x := rfl

@[simp] theorem State.setY_y (st : State) (v : Word) : (st.setY v).y = v := rfl

@[simp] theorem State.setY_u (st : State) (v : Word) : (st.setY v).u = st.u := rfl

@[simp] theorem State.setY_s (st : State) (v : Word) : (st.setY v).s = st.s := rfl

@[simp] theorem State.setY_pc (st : State) (v : Word) : (st.setY v).pc = st.pc := rfl

@[simp] theorem State.setY_dp (st : State) (v : Word) : (st.setY v).dp = st.dp := rfl

@[simp] theorem State.setY_cc (st : State) (v : Word) : (st.setY v).cc = st.cc := rfl

@[simp] theorem State.setY_nmiArmed (st : State) (v : Word) : (st.setY v).nmiArmed = st.nmiArmed := rfl

@[simp] theorem State.setY_nmiPending (st : State) (v : Word) : (st.setY v).nmiPending = st.nmiPending := rfl

@[simp] theorem State.setY_waitState (st : State) (v : Word) : (st.setY v).waitState = st.waitState := rfl

@[simp] theorem State.setY_mem (st : State) (v : Word) : (st.setY v).mem = st.mem := rfl

@[simp] theorem State.setY_memMap (st : State) (v : Word) : (st.setY v).memMap = st.memMap := rfl

@[simp] theorem State.setY_irqEnv (st : State) (v : Word) : (st.setY v).irqEnv = st.irqEnv := rfl

@[simp] theorem State.setY_nmiArming (st : State) (v : Word) : (st.setY v).nmiArming = st.nmiArming := rfl

@[simp] theorem State.setY_undefinedFlag (st : State) (v : Word) : (st.setY v).undefinedFlag = st.undefinedFlag := rfl

@[simp] theorem State.setY_deviceLog (st : State) (v : Word) : (st.setY v).deviceLog = st.deviceLog := rfl

@[simp] theorem State.setY_draws (st : State) (v : Word) : (st.setY v).draws = st.draws := rfl

@[simp] theorem State.setY_d (st : State) (v : Word) : (st.setY v).d = st.d := rfl

@[simp] theorem State.setY_kindAt (st : State) (v : Word) (w : Word) : (st.setY v).kindAt w = st.kindAt w := rfl

/-! ## setU -/

@[simp] theorem State.setU_a (st : State) (v : Word) : (st.setU v).a = st.a := rfl

@[simp] theorem State.setU_b (st : State) (v : Word) : (st.setU v).b = st.b := rfl

@[simp] theorem State.setU_x (st : State) (v : Word) : (st.setU v).x = st.x := rfl

@[simp] theorem State.setU_y (st : State) (v : Word) : (st.setU v).y = st.y := rfl

@[simp] theorem State.setU_u (st : State) (v : Word) : (st.setU v).u = v := rfl

@[simp] theorem State.setU_s (st : State) (v : Word) : (st.setU v).s = st.s := rfl

@[simp] theorem State.setU_pc (st : State) (v : Word) : (st.setU v).pc = st.pc := rfl

@[simp] theorem State.setU_dp (st : State) (v : Word) : (st.setU v).dp = st.dp := rfl

@[simp] theorem State.setU_cc (st : State) (v : Word) : (st.setU v).cc = st.cc := rfl

@[simp] theorem State.setU_nmiArmed (st : State) (v : Word) : (st.setU v).nmiArmed = st.nmiArmed := rfl

@[simp] theorem State.setU_nmiPending (st : State) (v : Word) : (st.setU v).nmiPending = st.nmiPending := rfl

@[simp] theorem State.setU_waitState (st : State) (v : Word) : (st.setU v).waitState = st.waitState := rfl

@[simp] theorem State.setU_mem (st : State) (v : Word) : (st.setU v).mem = st.mem := rfl

@[simp] theorem State.setU_memMap (st : State) (v : Word) : (st.setU v).memMap = st.memMap := rfl

@[simp] theorem State.setU_irqEnv (st : State) (v : Word) : (st.setU v).irqEnv = st.irqEnv := rfl

@[simp] theorem State.setU_nmiArming (st : State) (v : Word) : (st.setU v).nmiArming = st.nmiArming := rfl

@[simp] theorem State.setU_undefinedFlag (st : State) (v : Word) : (st.setU v).undefinedFlag = st.undefinedFlag := rfl

@[simp] theorem State.setU_deviceLog (st : State) (v : Word) : (st.setU v).deviceLog = st.deviceLog := rfl

@[simp] theorem State.setU_draws (st : State) (v : Word) : (st.setU v).draws = st.draws := rfl

@[simp] theorem State.setU_d (st : State) (v : Word) : (st.setU v).d = st.d := rfl

@[simp] theorem State.setU_kindAt (st : State) (v : Word) (w : Word) : (st.setU v).kindAt w = st.kindAt w := rfl

/-! ## setS -/

@[simp] theorem State.setS_a (st : State) (v : Word) : (st.setS v).a = st.a := rfl

@[simp] theorem State.setS_b (st : State) (v : Word) : (st.setS v).b = st.b := rfl

@[simp] theorem State.setS_x (st : State) (v : Word) : (st.setS v).x = st.x := rfl

@[simp] theorem State.setS_y (st : State) (v : Word) : (st.setS v).y = st.y := rfl

@[simp] theorem State.setS_u (st : State) (v : Word) : (st.setS v).u = st.u := rfl

@[simp] theorem State.setS_s (st : State) (v : Word) : (st.setS v).s = v := rfl

@[simp] theorem State.setS_pc (st : State) (v : Word) : (st.setS v).pc = st.pc := rfl

@[simp] theorem State.setS_dp (st : State) (v : Word) : (st.setS v).dp = st.dp := rfl

@[simp] theorem State.setS_cc (st : State) (v : Word) : (st.setS v).cc = st.cc := rfl

@[simp] theorem State.setS_nmiArmed (st : State) (v : Word) : (st.setS v).nmiArmed = st.nmiArmed := rfl

@[simp] theorem State.setS_nmiPending (st : State) (v : Word) : (st.setS v).nmiPending = st.nmiPending := rfl

@[simp] theorem State.setS_waitState (st : State) (v : Word) : (st.setS v).waitState = st.waitState := rfl

@[simp] theorem State.setS_mem (st : State) (v : Word) : (st.setS v).mem = st.mem := rfl

@[simp] theorem State.setS_memMap (st : State) (v : Word) : (st.setS v).memMap = st.memMap := rfl

@[simp] theorem State.setS_irqEnv (st : State) (v : Word) : (st.setS v).irqEnv = st.irqEnv := rfl

@[simp] theorem State.setS_nmiArming (st : State) (v : Word) : (st.setS v).nmiArming = st.nmiArming := rfl

@[simp] theorem State.setS_undefinedFlag (st : State) (v : Word) : (st.setS v).undefinedFlag = st.undefinedFlag := rfl

@[simp] theorem State.setS_deviceLog (st : State) (v : Word) : (st.setS v).deviceLog = st.deviceLog := rfl

@[simp] theorem State.setS_draws (st : State) (v : Word) : (st.setS v).draws = st.draws := rfl

@[simp] theorem State.setS_d (st : State) (v : Word) : (st.setS v).d = st.d := rfl

@[simp] theorem State.setS_kindAt (st : State) (v : Word) (w : Word) : (st.setS v).kindAt w = st.kindAt w := rfl

/-! ## setPC -/

@[simp] theorem State.setPC_a (st : State) (v : Word) : (st.setPC v).a = st.a := rfl

@[simp] theorem State.setPC_b (st : State) (v : Word) : (st.setPC v).b = st.b := rfl

@[simp] theorem State.setPC_x (st : State) (v : Word) : (st.setPC v).x = st.x := rfl

@[simp] theorem State.setPC_y (st : State) (v : Word) : (st.setPC v).y = st.y := rfl

@[simp] theorem State.setPC_u (st : State) (v : Word) : (st.setPC v).u = st.u := rfl

@[simp] theorem State.setPC_s (st : State) (v : Word) : (st.setPC v).s = st.s := rfl

@[simp] theorem State.setPC_pc (st : State) (v : Word) : (st.setPC v).pc = v := rfl

@[simp] theorem State.setPC_dp (st : State) (v : Word) : (st.setPC v).dp = st.dp := rfl

@[simp] theorem State.setPC_cc (st : State) (v : Word) : (st.setPC v).cc = st.cc := rfl

@[simp] theorem State.setPC_nmiArmed (st : State) (v : Word) : (st.setPC v).nmiArmed = st.nmiArmed := rfl

@[simp] theorem State.setPC_nmiPending (st : State) (v : Word) : (st.setPC v).nmiPending = st.nmiPending := rfl

@[simp] theorem State.setPC_waitState (st : State) (v : Word) : (st.setPC v).waitState = st.waitState := rfl

@[simp] theorem State.setPC_mem (st : State) (v : Word) : (st.setPC v).mem = st.mem := rfl

@[simp] theorem State.setPC_memMap (st : State) (v : Word) : (st.setPC v).memMap = st.memMap := rfl

@[simp] theorem State.setPC_irqEnv (st : State) (v : Word) : (st.setPC v).irqEnv = st.irqEnv := rfl

@[simp] theorem State.setPC_nmiArming (st : State) (v : Word) : (st.setPC v).nmiArming = st.nmiArming := rfl

@[simp] theorem State.setPC_undefinedFlag (st : State) (v : Word) : (st.setPC v).undefinedFlag = st.undefinedFlag := rfl

@[simp] theorem State.setPC_deviceLog (st : State) (v : Word) : (st.setPC v).deviceLog = st.deviceLog := rfl

@[simp] theorem State.setPC_draws (st : State) (v : Word) : (st.setPC v).draws = st.draws := rfl

@[simp] theorem State.setPC_d (st : State) (v : Word) : (st.setPC v).d = st.d := rfl

@[simp] theorem State.setPC_kindAt (st : State) (v : Word) (w : Word) : (st.setPC v).kindAt w = st.kindAt w := rfl

/-! ## setDP -/

@[simp] theorem State.setDP_a (st : State) (v : Byte) : (st.setDP v).a = st.a := rfl

@[simp] theorem State.setDP_b (st : State) (v : Byte) : (st.setDP v).b = st.b := rfl

@[simp] theorem State.setDP_x (st : State) (v : Byte) : (st.setDP v).x = st.x := rfl

@[simp] theorem State.setDP_y (st : State) (v : Byte) : (st.setDP v).y = st.y := rfl

@[simp] theorem State.setDP_u (st : State) (v : Byte) : (st.setDP v).u = st.u := rfl

@[simp] theorem State.setDP_s (st : State) (v : Byte) : (st.setDP v).s = st.s := rfl

@[simp] theorem State.setDP_pc (st : State) (v : Byte) : (st.setDP v).pc = st.pc := rfl

@[simp] theorem State.setDP_dp (st : State) (v : Byte) : (st.setDP v).dp = v := rfl

@[simp] theorem State.setDP_cc (st : State) (v : Byte) : (st.setDP v).cc = st.cc := rfl

@[simp] theorem State.setDP_nmiArmed (st : State) (v : Byte) : (st.setDP v).nmiArmed = st.nmiArmed := rfl

@[simp] theorem State.setDP_nmiPending (st : State) (v : Byte) : (st.setDP v).nmiPending = st.nmiPending := rfl

@[simp] theorem State.setDP_waitState (st : State) (v : Byte) : (st.setDP v).waitState = st.waitState := rfl

@[simp] theorem State.setDP_mem (st : State) (v : Byte) : (st.setDP v).mem = st.mem := rfl

@[simp] theorem State.setDP_memMap (st : State) (v : Byte) : (st.setDP v).memMap = st.memMap := rfl

@[simp] theorem State.setDP_irqEnv (st : State) (v : Byte) : (st.setDP v).irqEnv = st.irqEnv := rfl

@[simp] theorem State.setDP_nmiArming (st : State) (v : Byte) : (st.setDP v).nmiArming = st.nmiArming := rfl

@[simp] theorem State.setDP_undefinedFlag (st : State) (v : Byte) : (st.setDP v).undefinedFlag = st.undefinedFlag := rfl

@[simp] theorem State.setDP_deviceLog (st : State) (v : Byte) : (st.setDP v).deviceLog = st.deviceLog := rfl

@[simp] theorem State.setDP_draws (st : State) (v : Byte) : (st.setDP v).draws = st.draws := rfl

@[simp] theorem State.setDP_d (st : State) (v : Byte) : (st.setDP v).d = st.d := rfl

@[simp] theorem State.setDP_kindAt (st : State) (v : Byte) (w : Word) : (st.setDP v).kindAt w = st.kindAt w := rfl

/-! ## setCC -/

@[simp] theorem State.setCC_a (st : State) (v : Byte) : (st.setCC v).a = st.a := rfl

@[simp] theorem State.setCC_b (st : State) (v : Byte) : (st.setCC v).b = st.b := rfl

@[simp] theorem State.setCC_x (st : State) (v : Byte) : (st.setCC v).x = st.x := rfl

@[simp] theorem State.setCC_y (st : State) (v : Byte) : (st.setCC v).y = st.y := rfl

@[simp] theorem State.setCC_u (st : State) (v : Byte) : (st.setCC v).u = st.u := rfl

@[simp] theorem State.setCC_s (st : State) (v : Byte) : (st.setCC v).s = st.s := rfl

@[simp] theorem State.setCC_pc (st : State) (v : Byte) : (st.setCC v).pc = st.pc := rfl

@[simp] theorem State.setCC_dp (st : State) (v : Byte) : (st.setCC v).dp = st.dp := rfl

@[simp] theorem State.setCC_cc (st : State) (v : Byte) : (st.setCC v).cc = v := rfl

@[simp] theorem State.setCC_nmiArmed (st : State) (v : Byte) : (st.setCC v).nmiArmed = st.nmiArmed := rfl

@[simp] theorem State.setCC_nmiPending (st : State) (v : Byte) : (st.setCC v).nmiPending = st.nmiPending := rfl

@[simp] theorem State.setCC_waitState (st : State) (v : Byte) : (st.setCC v).waitState = st.waitState := rfl

@[simp] theorem State.setCC_mem (st : State) (v : Byte) : (st.setCC v).mem = st.mem := rfl

@[simp] theorem State.setCC_memMap (st : State) (v : Byte) : (st.setCC v).memMap = st.memMap := rfl

@[simp] theorem State.setCC_irqEnv (st : State) (v : Byte) : (st.setCC v).irqEnv = st.irqEnv := rfl

@[simp] theorem State.setCC_nmiArming (st : State) (v : Byte) : (st.setCC v).nmiArming = st.nmiArming := rfl

@[simp] theorem State.setCC_undefinedFlag (st : State) (v : Byte) : (st.setCC v).undefinedFlag = st.undefinedFlag := rfl

@[simp] theorem State.setCC_deviceLog (st : State) (v : Byte) : (st.setCC v).deviceLog = st.deviceLog := rfl

@[simp] theorem State.setCC_draws (st : State) (v : Byte) : (st.setCC v).draws = st.draws := rfl

@[simp] theorem State.setCC_d (st : State) (v : Byte) : (st.setCC v).d = st.d := rfl

@[simp] theorem State.setCC_kindAt (st : State) (v : Byte) (w : Word) : (st.setCC v).kindAt w = st.kindAt w := rfl

/-! ## setWait -/

@[simp] theorem State.setWait_a (st : State) (v : WaitState) : (st.setWait v).a = st.a := rfl

@[simp] theorem State.setWait_b (st : State) (v : WaitState) : (st.setWait v).b = st.b := rfl

@[simp] theorem State.setWait_x (st : State) (v : WaitState) : (st.setWait v).x = st.x := rfl

@[simp] theorem State.setWait_y (st : State) (v : WaitState) : (st.setWait v).y = st.y := rfl

@[simp] theorem State.setWait_u (st : State) (v : WaitState) : (st.setWait v).u = st.u := rfl

@[simp] theorem State.setWait_s (st : State) (v : WaitState) : (st.setWait v).s = st.s := rfl

@[simp] theorem State.setWait_pc (st : State) (v : WaitState) : (st.setWait v).pc = st.pc := rfl

@[simp] theorem State.setWait_dp (st : State) (v : WaitState) : (st.setWait v).dp = st.dp := rfl

@[simp] theorem State.setWait_cc (st : State) (v : WaitState) : (st.setWait v).cc = st.cc := rfl

@[simp] theorem State.setWait_nmiArmed (st : State) (v : WaitState) : (st.setWait v).nmiArmed = st.nmiArmed := rfl

@[simp] theorem State.setWait_nmiPending (st : State) (v : WaitState) : (st.setWait v).nmiPending = st.nmiPending := rfl

@[simp] theorem State.setWait_waitState (st : State) (v : WaitState) : (st.setWait v).waitState = v := rfl

@[simp] theorem State.setWait_mem (st : State) (v : WaitState) : (st.setWait v).mem = st.mem := rfl

@[simp] theorem State.setWait_memMap (st : State) (v : WaitState) : (st.setWait v).memMap = st.memMap := rfl

@[simp] theorem State.setWait_irqEnv (st : State) (v : WaitState) : (st.setWait v).irqEnv = st.irqEnv := rfl

@[simp] theorem State.setWait_nmiArming (st : State) (v : WaitState) : (st.setWait v).nmiArming = st.nmiArming := rfl

@[simp] theorem State.setWait_undefinedFlag (st : State) (v : WaitState) : (st.setWait v).undefinedFlag = st.undefinedFlag := rfl

@[simp] theorem State.setWait_deviceLog (st : State) (v : WaitState) : (st.setWait v).deviceLog = st.deviceLog := rfl

@[simp] theorem State.setWait_draws (st : State) (v : WaitState) : (st.setWait v).draws = st.draws := rfl

@[simp] theorem State.setWait_d (st : State) (v : WaitState) : (st.setWait v).d = st.d := rfl

@[simp] theorem State.setWait_kindAt (st : State) (v : WaitState) (w : Word) : (st.setWait v).kindAt w = st.kindAt w := rfl

/-! ## loadS -/

@[simp] theorem State.loadS_a (st : State) (k : Bool) (v : Word) : (st.loadS k v).a = st.a := rfl

@[simp] theorem State.loadS_b (st : State) (k : Bool) (v : Word) : (st.loadS k v).b = st.b := rfl

@[simp] theorem State.loadS_x (st : State) (k : Bool) (v : Word) : (st.loadS k v).x = st.x := rfl

@[simp] theorem State.loadS_y (st : State) (k : Bool) (v : Word) : (st.loadS k v).y = st.y := rfl

@[simp] theorem State.loadS_u (st : State) (k : Bool) (v : Word) : (st.loadS k v).u = st.u := rfl

@[simp] theorem State.loadS_s (st : State) (k : Bool) (v : Word) : (st.loadS k v).s = v := rfl

@[simp] theorem State.loadS_pc (st : State) (k : Bool) (v : Word) : (st.loadS k v).pc = st.pc := rfl

@[simp] theorem State.loadS_dp (st : State) (k : Bool) (v : Word) : (st.loadS k v).dp = st.dp := rfl

@[simp] theorem State.loadS_cc (st : State) (k : Bool) (v : Word) : (st.loadS k v).cc = st.cc := rfl

@[simp] theorem State.loadS_nmiArmed (st : State) (k : Bool) (v : Word) : (st.loadS k v).nmiArmed = (st.nmiArmed || k || st.nmiArming == .anyWriteToS) := rfl

@[simp] theorem State.loadS_nmiPending (st : State) (k : Bool) (v : Word) : (st.loadS k v).nmiPending = st.nmiPending := rfl

@[simp] theorem State.loadS_waitState (st : State) (k : Bool) (v : Word) : (st.loadS k v).waitState = st.waitState := rfl

@[simp] theorem State.loadS_mem (st : State) (k : Bool) (v : Word) : (st.loadS k v).mem = st.mem := rfl

@[simp] theorem State.loadS_memMap (st : State) (k : Bool) (v : Word) : (st.loadS k v).memMap = st.memMap := rfl

@[simp] theorem State.loadS_irqEnv (st : State) (k : Bool) (v : Word) : (st.loadS k v).irqEnv = st.irqEnv := rfl

@[simp] theorem State.loadS_nmiArming (st : State) (k : Bool) (v : Word) : (st.loadS k v).nmiArming = st.nmiArming := rfl

@[simp] theorem State.loadS_undefinedFlag (st : State) (k : Bool) (v : Word) : (st.loadS k v).undefinedFlag = st.undefinedFlag := rfl

@[simp] theorem State.loadS_deviceLog (st : State) (k : Bool) (v : Word) : (st.loadS k v).deviceLog = st.deviceLog := rfl

@[simp] theorem State.loadS_draws (st : State) (k : Bool) (v : Word) : (st.loadS k v).draws = st.draws := rfl

@[simp] theorem State.loadS_d (st : State) (k : Bool) (v : Word) : (st.loadS k v).d = st.d := rfl

@[simp] theorem State.loadS_kindAt (st : State) (k : Bool) (v : Word) (w : Word) : (st.loadS k v).kindAt w = st.kindAt w := rfl

/-! ## tickInputs -/

@[simp] theorem State.tickInputs_a (st : State) : (st.tickInputs).a = st.a := rfl

@[simp] theorem State.tickInputs_b (st : State) : (st.tickInputs).b = st.b := rfl

@[simp] theorem State.tickInputs_x (st : State) : (st.tickInputs).x = st.x := rfl

@[simp] theorem State.tickInputs_y (st : State) : (st.tickInputs).y = st.y := rfl

@[simp] theorem State.tickInputs_u (st : State) : (st.tickInputs).u = st.u := rfl

@[simp] theorem State.tickInputs_s (st : State) : (st.tickInputs).s = st.s := rfl

@[simp] theorem State.tickInputs_pc (st : State) : (st.tickInputs).pc = st.pc := rfl

@[simp] theorem State.tickInputs_dp (st : State) : (st.tickInputs).dp = st.dp := rfl

@[simp] theorem State.tickInputs_cc (st : State) : (st.tickInputs).cc = st.cc := rfl

@[simp] theorem State.tickInputs_nmiArmed (st : State) : (st.tickInputs).nmiArmed = st.nmiArmed := rfl

@[simp] theorem State.tickInputs_nmiPending (st : State) : (st.tickInputs).nmiPending = st.nmiPending := rfl

@[simp] theorem State.tickInputs_waitState (st : State) : (st.tickInputs).waitState = st.waitState := rfl

@[simp] theorem State.tickInputs_mem (st : State) : (st.tickInputs).mem = st.mem := rfl

@[simp] theorem State.tickInputs_memMap (st : State) : (st.tickInputs).memMap = st.memMap := rfl

@[simp] theorem State.tickInputs_irqEnv (st : State) : (st.tickInputs).irqEnv = st.irqEnv.tail := rfl

@[simp] theorem State.tickInputs_nmiArming (st : State) : (st.tickInputs).nmiArming = st.nmiArming := rfl

@[simp] theorem State.tickInputs_undefinedFlag (st : State) : (st.tickInputs).undefinedFlag = st.undefinedFlag := rfl

@[simp] theorem State.tickInputs_deviceLog (st : State) : (st.tickInputs).deviceLog = st.deviceLog := rfl

@[simp] theorem State.tickInputs_draws (st : State) : (st.tickInputs).draws = st.draws := rfl

@[simp] theorem State.tickInputs_d (st : State) : (st.tickInputs).d = st.d := rfl

@[simp] theorem State.tickInputs_kindAt (st : State) (w : Word) : (st.tickInputs).kindAt w = st.kindAt w := rfl

end Sys2Proof.Machine
end

