-- ==== Sys2Proof/Laws/Frames.lean ====
section
/-! SUPPORT. The calculus of frames (`changesOnly`) and of stored bytes (`storesBytes`), and for each shared operation
what it can change, what it stores, and that it keeps memory in its canonical form. -/

namespace Sys2Proof.Machine

variable {ps qs : List Part} {s t u : State}

/-! ## Frames -/

theorem changesOnly_refl (s : State) : changesOnly [] s s :=
  ⟨⟨rfl, rfl, rfl⟩, fun p _ => by cases p <;> first | rfl | (intro _; rfl)⟩

theorem changesOnly.mono (h : changesOnly ps s t) (hsub : ∀ p, p ∈ ps → p ∈ qs) : changesOnly qs s t :=
  ⟨h.1, fun p hp => h.2 p fun hm => hp (hsub p hm)⟩

theorem Part.same_trans {p : Part} (h1 : p.same s t) (h2 : p.same t u) : p.same s u := by
  cases p <;> first | exact h2.trans h1 | exact fun a => (h2 a).trans (h1 a)

theorem changesOnly.trans (h1 : changesOnly ps s t) (h2 : changesOnly qs t u) : changesOnly (ps ++ qs) s u :=
  ⟨⟨h2.1.1.trans h1.1.1, h2.1.2.1.trans h1.1.2.1, h2.1.2.2.trans h1.1.2.2⟩, fun p hp =>
    Part.same_trans (h1.2 p fun hm => hp (List.mem_append_left _ hm)) (h2.2 p fun hm => hp (List.mem_append_right _ hm))⟩

/-- Two frames in a row, into any list that holds both. -/
theorem changesOnly.then {rs : List Part} (h1 : changesOnly ps s t) (h2 : changesOnly qs t u)
    (hsub : ∀ p, p ∈ ps ++ qs → p ∈ rs) : changesOnly rs s u := (h1.trans h2).mono hsub

/-- The frame of an instruction with an operand, from what obtaining it may touch and what the operation itself changes. -/
theorem changesAfter.of {touched : List Part} (h0 : changesOnly touched s t) (h : changesOnly ps t u) :
    changesAfter ps touched s t u :=
  ⟨h, h0.then h fun _ hp => List.mem_append.2 (List.mem_append.1 hp).symm⟩

theorem changesOnly.kindAt (h : changesOnly ps s t) (a : Word) : t.kindAt a = s.kindAt a := by
  simp only [State.kindAt, h.1.1]

theorem changesOnly.byteAt (h : changesOnly ps s t) (hm : Part.mem ∉ ps) (a : Word) : t.byteAt a = s.byteAt a :=
  h.2 .mem hm a

/-! ## Frames of the updates -/

theorem State.setA_changes (s : State) (v : Byte) : changesOnly [.a] s (s.setA v) :=
  ⟨⟨rfl, rfl, rfl⟩, fun p hp => by cases p <;> first | rfl | (intro _; rfl) | simp at hp⟩

theorem State.setB_changes (s : State) (v : Byte) : changesOnly [.b] s (s.setB v) :=
  ⟨⟨rfl, rfl, rfl⟩, fun p hp => by cases p <;> first | rfl | (intro _; rfl) | simp at hp⟩

theorem State.setD_changes (s : State) (v : Word) : changesOnly [.a, .b] s (s.setD v) :=
  ⟨⟨rfl, rfl, rfl⟩, fun p hp => by cases p <;> first | rfl | (intro _; rfl) | simp at hp⟩

theorem State.setX_changes (s : State) (v : Word) : changesOnly [.x] s (s.setX v) :=
  ⟨⟨rfl, rfl, rfl⟩, fun p hp => by cases p <;> first | rfl | (intro _; rfl) | simp at hp⟩

theorem State.setY_changes (s : State) (v : Word) : changesOnly [.y] s (s.setY v) :=
  ⟨⟨rfl, rfl, rfl⟩, fun p hp => by cases p <;> first | rfl | (intro _; rfl) | simp at hp⟩

theorem State.setU_changes (s : State) (v : Word) : changesOnly [.u] s (s.setU v) :=
  ⟨⟨rfl, rfl, rfl⟩, fun p hp => by cases p <;> first | rfl | (intro _; rfl) | simp at hp⟩

theorem State.setS_changes (s : State) (v : Word) : changesOnly [.s] s (s.setS v) :=
  ⟨⟨rfl, rfl, rfl⟩, fun p hp => by cases p <;> first | rfl | (intro _; rfl) | simp at hp⟩

theorem State.setPC_changes (s : State) (v : Word) : changesOnly [.pc] s (s.setPC v) :=
  ⟨⟨rfl, rfl, rfl⟩, fun p hp => by cases p <;> first | rfl | (intro _; rfl) | simp at hp⟩

theorem State.setDP_changes (s : State) (v : Byte) : changesOnly [.dp] s (s.setDP v) :=
  ⟨⟨rfl, rfl, rfl⟩, fun p hp => by cases p <;> first | rfl | (intro _; rfl) | simp at hp⟩

theorem State.setWait_changes (s : State) (w : WaitState) : changesOnly [.waitState] s (s.setWait w) :=
  ⟨⟨rfl, rfl, rfl⟩, fun p hp => by cases p <;> first | rfl | (intro _; rfl) | simp at hp⟩

theorem State.loadS_changes (s : State) (k : Bool) (v : Word) : changesOnly [.s, .nmiArmed] s (s.loadS k v) :=
  ⟨⟨rfl, rfl, rfl⟩, fun p hp => by cases p <;> first | rfl | (intro _; rfl) | simp at hp⟩

theorem State.tickInputs_changes (s : State) : changesOnly [.irqEnv] s s.tickInputs :=
  ⟨⟨rfl, rfl, rfl⟩, fun p hp => by cases p <;> first | rfl | (intro _; rfl) | simp at hp⟩

/-- CC written changes the flags in which the new value differs. -/
theorem State.setCC_changes (s : State) (v : Byte) (ps : List Part)
    (h : ∀ fl, Part.flag fl ∉ ps → ccGet v fl = ccGet s.cc fl) : changesOnly ps s (s.setCC v) :=
  ⟨⟨rfl, rfl, rfl⟩, fun p hp => by cases p <;> first | rfl | (intro _; rfl) | exact h _ hp⟩

theorem State.setCC_changes_flags (s : State) (v : Byte) : changesOnly allFlags s (s.setCC v) :=
  s.setCC_changes v allFlags fun fl hf => by cases fl <;> simp [allFlags] at hf

theorem State.setIndex_changes (s : State) (r : IndexReg) (v : Word) : changesOnly [r.part] s (s.setIndex r v) := by
  cases r <;> [exact s.setX_changes v; exact s.setY_changes v; exact s.setU_changes v; exact s.setS_changes v]

@[simp] theorem State.setIndex_mem (s : State) (r : IndexReg) (v : Word) : (s.setIndex r v).mem = s.mem := by
  cases r <;> rfl

@[simp] theorem State.setIndex_memMap (s : State) (r : IndexReg) (v : Word) : (s.setIndex r v).memMap = s.memMap := by
  cases r <;> rfl

@[simp] theorem State.setIndex_deviceLog (s : State) (r : IndexReg) (v : Word) :
    (s.setIndex r v).deviceLog = s.deviceLog := by
  cases r <;> rfl

/-! ## Reads -/

/-- A read changes nothing but the record of device accesses and the count of free values. -/
theorem State.readByte_changes (s : State) (a : Word) : changesOnly [.devices, .draws] s (s.readByte a).2 := by
  unfold State.readByte
  split <;> exact ⟨⟨rfl, rfl, rfl⟩, fun p hp => by cases p <;> first | rfl | (intro _; rfl) | simp at hp⟩

@[simp] theorem State.readByte_mem (s : State) (a : Word) : (s.readByte a).2.mem = s.mem := by
  unfold State.readByte; split <;> rfl

@[simp] theorem State.readByte_cc (s : State) (a : Word) : (s.readByte a).2.cc = s.cc := by
  unfold State.readByte; split <;> rfl

@[simp] theorem State.readByte_pc (s : State) (a : Word) : (s.readByte a).2.pc = s.pc := by
  unfold State.readByte; split <;> rfl

@[simp] theorem State.readByte_memMap (s : State) (a : Word) : (s.readByte a).2.memMap = s.memMap := by
  unfold State.readByte; split <;> rfl

/-- RAM and ROM give their content, and the read has no effect (20_memory.md R54, R62). -/
theorem State.readByte_of_content (s : State) (a : Word) (h : s.kindAt a = .ram ∨ s.kindAt a = .rom) :
    s.readByte a = (s.byteAt a, s) := by
  unfold State.readByte
  rcases h with h | h <;> rw [h] <;> rfl

theorem State.readWord_changes (s : State) (a : Word) : changesOnly [.devices, .draws] s (s.readWord a).2 :=
  (s.readByte_changes a).then ((s.readByte a).2.readByte_changes (a + 1#16)) (by simp)

@[simp] theorem State.readWord_mem (s : State) (a : Word) : (s.readWord a).2.mem = s.mem := by
  simp [State.readWord]

@[simp] theorem State.readWord_cc (s : State) (a : Word) : (s.readWord a).2.cc = s.cc := by
  simp [State.readWord]

@[simp] theorem State.readWord_memMap (s : State) (a : Word) : (s.readWord a).2.memMap = s.memMap := by
  simp [State.readWord]

/-! ## Operands -/

theorem State.indirect_changes (s : State) (ind : Bool) (ea : Word) :
    changesOnly [.devices, .draws] s (s.indirect ind ea).2 := by
  cases ind
  · exact (changesOnly_refl s).mono (by simp)
  · exact s.readWord_changes ea

@[simp] theorem State.indirect_mem (s : State) (ind : Bool) (ea : Word) : (s.indirect ind ea).2.mem = s.mem := by
  cases ind <;> simp [State.indirect]

@[simp] theorem State.indirect_memMap (s : State) (ind : Bool) (ea : Word) :
    (s.indirect ind ea).2.memMap = s.memMap := by
  cases ind <;> simp [State.indirect]

/-- The indexed effective address changes the base register of an auto increment or decrement form, and by a pointer
read what a read changes (30_encoding.md R104). -/
theorem State.indexedEA_changes (s : State) (ix : Indexed) :
    changesOnly (ix.written ++ [.devices, .draws]) s (s.indexedEA ix).2 := by
  cases ix with
  | off5 r n => exact (changesOnly_refl s).mono (by simp)
  | inc1 r => exact (s.setIndex_changes r _).mono (by simp [Indexed.written])
  | dec1 r => exact (s.setIndex_changes r _).mono (by simp [Indexed.written])
  | inc2 r ind => exact (s.setIndex_changes r _).then (State.indirect_changes _ ind _) (by simp [Indexed.written])
  | dec2 r ind => exact (s.setIndex_changes r _).then (State.indirect_changes _ ind _) (by simp [Indexed.written])
  | off0 r ind => exact s.indirect_changes ind _
  | off8 r n ind => exact s.indirect_changes ind _
  | off16 r n ind => exact s.indirect_changes ind _
  | accA r ind => exact s.indirect_changes ind _
  | accB r ind => exact s.indirect_changes ind _
  | accD r ind => exact s.indirect_changes ind _
  | pcr8 n ind => exact s.indirect_changes ind _
  | pcr16 n ind => exact s.indirect_changes ind _
  | extInd addr => exact s.indirect_changes true _

@[simp] theorem State.indexedEA_mem (s : State) (ix : Indexed) : (s.indexedEA ix).2.mem = s.mem := by
  cases ix <;> simp [State.indexedEA]

@[simp] theorem State.indexedEA_memMap (s : State) (ix : Indexed) : (s.indexedEA ix).2.memMap = s.memMap := by
  cases ix <;> simp [State.indexedEA]

theorem State.resolveEA_changes (s : State) (m : MemOperand) : changesOnly m.touched s (s.resolveEA m).2 := by
  cases m with
  | dir off => exact (changesOnly_refl s).mono (by simp)
  | ext addr => exact (changesOnly_refl s).mono (by simp)
  | idx ix => exact s.indexedEA_changes ix

@[simp] theorem State.resolveEA_mem (s : State) (m : MemOperand) : (s.resolveEA m).2.mem = s.mem := by
  cases m <;> simp [State.resolveEA]

@[simp] theorem State.resolveEA_memMap (s : State) (m : MemOperand) : (s.resolveEA m).2.memMap = s.memMap := by
  cases m <;> simp [State.resolveEA]

theorem mem_touched (m : MemOperand) : Part.devices ∈ m.touched ∧ Part.draws ∈ m.touched := by
  cases m <;> simp [MemOperand.touched]

theorem State.operand8_changes (s : State) (op : Operand8) : changesOnly op.touched s (s.operand8 op).2 := by
  cases op with
  | imm v => exact changesOnly_refl s
  | mem m =>
    refine (s.resolveEA_changes m).then ((s.resolveEA m).2.readByte_changes _) ?_
    intro p hp
    rcases List.mem_append.1 hp with h | h
    · exact h
    · rcases List.mem_cons.1 h with h | h
      · exact h ▸ (mem_touched m).1
      · exact (List.mem_singleton.1 h) ▸ (mem_touched m).2

theorem State.operand16_changes (s : State) (op : Operand16) : changesOnly op.touched s (s.operand16 op).2 := by
  cases op with
  | imm v => exact changesOnly_refl s
  | mem m =>
    refine (s.resolveEA_changes m).then ((s.resolveEA m).2.readWord_changes _) ?_
    intro p hp
    rcases List.mem_append.1 hp with h | h
    · exact h
    · rcases List.mem_cons.1 h with h | h
      · exact h ▸ (mem_touched m).1
      · exact (List.mem_singleton.1 h) ▸ (mem_touched m).2

@[simp] theorem State.operand8_mem (s : State) (op : Operand8) : (s.operand8 op).2.mem = s.mem := by
  cases op <;> simp [State.operand8]

@[simp] theorem State.operand16_mem (s : State) (op : Operand16) : (s.operand16 op).2.mem = s.mem := by
  cases op <;> simp [State.operand16]

/-! ## Undefined flags -/

theorem State.undefinedBit_changes (s : State) (fl : Flag) : changesOnly [.draws] s (s.undefinedBit fl).2 := by
  unfold State.undefinedBit
  split <;> exact ⟨⟨rfl, rfl, rfl⟩, fun p hp => by cases p <;> first | rfl | (intro _; rfl) | simp at hp⟩

/-- Under `undefined_flag = unchanged` the flag keeps its value and nothing is drawn (92_eei_decisions.md D12). -/
theorem State.undefinedBit_unchanged (s : State) (fl : Flag) (h : s.undefinedFlag = .unchanged) :
    s.undefinedBit fl = (ccGet s.cc fl, s) := by
  unfold State.undefinedBit; rw [h]

@[simp] theorem State.undefinedBit_mem (s : State) (fl : Flag) : (s.undefinedBit fl).2.mem = s.mem := by
  unfold State.undefinedBit; split <;> rfl

@[simp] theorem State.undefinedBit_cc (s : State) (fl : Flag) : (s.undefinedBit fl).2.cc = s.cc := by
  unfold State.undefinedBit; split <;> rfl

@[simp] theorem State.undefinedBit_a (s : State) (fl : Flag) : (s.undefinedBit fl).2.a = s.a := by
  unfold State.undefinedBit; split <;> rfl

@[simp] theorem State.undefinedBit_b (s : State) (fl : Flag) : (s.undefinedBit fl).2.b = s.b := by
  unfold State.undefinedBit; split <;> rfl

@[simp] theorem State.undefinedBit_memMap (s : State) (fl : Flag) : (s.undefinedBit fl).2.memMap = s.memMap := by
  unfold State.undefinedBit; split <;> rfl

@[simp] theorem State.undefinedBit_deviceLog (s : State) (fl : Flag) :
    (s.undefinedBit fl).2.deviceLog = s.deviceLog := by
  unfold State.undefinedBit; split <;> rfl

/-! ## Writes -/

theorem State.writeByte_changes (s : State) (a : Word) (v : Byte) :
    changesOnly [.mem, .devices] s (s.writeByte a v) := by
  unfold State.writeByte
  split <;> exact ⟨⟨rfl, rfl, rfl⟩, fun p hp => by cases p <;> first | rfl | (intro _; rfl) | simp at hp⟩

theorem State.writeWord_changes (s : State) (a v : Word) : changesOnly [.mem, .devices] s (s.writeWord a v) :=
  (s.writeByte_changes a _).then (State.writeByte_changes _ _ _) (by simp)

@[simp] theorem State.writeByte_cc (s : State) (a : Word) (v : Byte) : (s.writeByte a v).cc = s.cc := by
  unfold State.writeByte; split <;> rfl

@[simp] theorem State.writeByte_memMap (s : State) (a : Word) (v : Byte) : (s.writeByte a v).memMap = s.memMap := by
  unfold State.writeByte; split <;> rfl

@[simp] theorem State.writeByte_s (s : State) (a : Word) (v : Byte) : (s.writeByte a v).s = s.s := by
  unfold State.writeByte; split <;> rfl

@[simp] theorem State.writeByte_u (s : State) (a : Word) (v : Byte) : (s.writeByte a v).u = s.u := by
  unfold State.writeByte; split <;> rfl

@[simp] theorem State.writeWord_cc (s : State) (a v : Word) : (s.writeWord a v).cc = s.cc := by
  simp [State.writeWord]

@[simp] theorem State.writeWord_memMap (s : State) (a v : Word) : (s.writeWord a v).memMap = s.memMap := by
  simp [State.writeWord]

/-- A write keeps memory in its canonical form. -/
theorem State.writeByte_wf (s : State) (a : Word) (v : Byte) (h : s.mem.wf = true) :
    (s.writeByte a v).mem.wf = true := by
  unfold State.writeByte
  split
  · exact Memory.wf_put s.mem a v h
  all_goals exact h

theorem State.writeWord_wf (s : State) (a v : Word) (h : s.mem.wf = true) : (s.writeWord a v).mem.wf = true :=
  State.writeByte_wf _ _ _ (s.writeByte_wf _ _ h)

/-- What one write stores (20_memory.md R56). -/
theorem State.writeByte_stores (s : State) (a : Word) (v : Byte) (h : s.mem.wf = true) :
    storesBytes s (s.writeByte a v) [(a, v)] := by
  have put (c : Word) : (s.mem.put a.toNat v).get c.toNat = if c = a then v else s.mem.get c.toNat := by
    simp only [Memory.get_put s.mem a.toNat v 0 h, BitVec.toNat_inj]
  unfold State.writeByte
  split <;> rename_i hk <;> refine ⟨?_, ?_, ?_⟩ <;> simp [State.byteAt, hk, put]
  intro addr hne hEq
  exact absurd hEq.symm hne

/-- Nothing stored. -/
theorem storesBytes_nil (hm : t.mem = s.mem) (hl : t.deviceLog = s.deviceLog) : storesBytes s t [] :=
  ⟨fun a _ => by simp [State.byteAt, hm], by simp, by simp [hl]⟩

/-- Stores one after the other, at addresses that differ. -/
theorem storesBytes.append {l1 l2 : List (Word × Byte)} (h1 : storesBytes s t l1) (h2 : storesBytes t u l2)
    (hk : t.memMap = s.memMap) (hne : ∀ p ∈ l1, ∀ q ∈ l2, p.1 ≠ q.1) : storesBytes s u (l1 ++ l2) := by
  have hkind (a : Word) : t.kindAt a = s.kindAt a := by simp only [State.kindAt, hk]
  refine ⟨fun a ha => ?_, fun p hp => ?_, ?_⟩
  · rw [h2.1 a fun q hq => ha q (List.mem_append_right _ hq), h1.1 a fun q hq => ha q (List.mem_append_left _ hq)]
  · rcases List.mem_append.1 hp with hp | hp
    · rw [h2.1 p.1 fun q hq => (hne p hp q hq).symm, h1.2.1 p hp]
    · rw [h2.2.1 p hp, hkind, h1.1 p.1 fun q hq => hne q hq p hp]
  · rw [h2.2.2, h1.2.2, List.filter_append, List.map_append, List.reverse_append, List.append_assoc]
    simp only [hkind]

/-- Stored bytes depend on memory, the map and the record of device accesses alone. -/
theorem storesBytes.congr {s' t' : State} {l : List (Word × Byte)} (h : storesBytes s t l)
    (hs : s'.mem = s.mem ∧ s'.memMap = s.memMap ∧ s'.deviceLog = s.deviceLog)
    (ht : t'.mem = t.mem ∧ t'.deviceLog = t.deviceLog) : storesBytes s' t' l := by
  have hk (a : Word) : s'.kindAt a = s.kindAt a := by simp only [State.kindAt, hs.2.1]
  have hb (a : Word) : s'.byteAt a = s.byteAt a := by simp only [State.byteAt, hs.1]
  have hc (a : Word) : t'.byteAt a = t.byteAt a := by simp only [State.byteAt, ht.1]
  refine ⟨fun a ha => ?_, fun p hp => ?_, ?_⟩
  · rw [hc, hb, h.1 a ha]
  · rw [hc, hb, hk, h.2.1 p hp]
  · simp only [hk, hs.2.2, ht.2, h.2.2]

/-- What a 16-bit write stores (20_memory.md R57). -/
theorem State.writeWord_stores (s : State) (a v : Word) (h : s.mem.wf = true) :
    storesBytes s (s.writeWord a v) (wordBytes a v) := by
  refine (s.writeByte_stores a (highByte v) h).append
    (State.writeByte_stores _ (a + 1#16) (lowByte v) (s.writeByte_wf _ _ h)) (by simp) ?_
  simp

end Sys2Proof.Machine
end

