-- ==== Sys2Proof/Laws/Evolution.lean ====
section
/-! SUPPORT. What every shared operation has in common, said once: the parameters stay, memory keeps its canonical form
and what is not RAM its content, the record of device accesses and the count of free values only grow, and NMI is never
disarmed. Reset and the NMI latch are the two things that do more. -/

namespace Sys2Proof.Machine

/-- What holds between the states before and after any composition of the shared operations. -/
structure Evolves (s t : State) : Prop where
  memMap : t.memMap = s.memMap
  nmiArming : t.nmiArming = s.nmiArming
  undefinedFlag : t.undefinedFlag = s.undefinedFlag
  irqEnv : t.irqEnv = s.irqEnv
  nmiPending : t.nmiPending = s.nmiPending
  wf : s.mem.wf = true → t.mem.wf = true
  content : s.mem.wf = true → ∀ a, s.kindAt a ≠ .ram → t.byteAt a = s.byteAt a
  log : ∃ new, t.deviceLog = new ++ s.deviceLog
  draws : s.draws ≤ t.draws
  armed : s.nmiArmed = true → t.nmiArmed = true

namespace Evolves

variable {s t u : State}

theorem refl (s : State) : Evolves s s :=
  ⟨rfl, rfl, rfl, rfl, rfl, id, fun _ _ _ => rfl, ⟨[], rfl⟩, Nat.le_refl _, id⟩

theorem trans (h1 : Evolves s t) (h2 : Evolves t u) : Evolves s u where
  memMap := h2.memMap.trans h1.memMap
  nmiArming := h2.nmiArming.trans h1.nmiArming
  undefinedFlag := h2.undefinedFlag.trans h1.undefinedFlag
  irqEnv := h2.irqEnv.trans h1.irqEnv
  nmiPending := h2.nmiPending.trans h1.nmiPending
  wf h := h2.wf (h1.wf h)
  content h a ha := by
    rw [h2.content (h1.wf h) a (by simpa only [State.kindAt, h1.memMap] using ha), h1.content h a ha]
  log := by
    obtain ⟨n1, e1⟩ := h1.log
    obtain ⟨n2, e2⟩ := h2.log
    exact ⟨n2 ++ n1, by rw [e2, e1, List.append_assoc]⟩
  draws := h1.draws.trans h2.draws
  armed h := h2.armed (h1.armed h)

/-- An update of registers, flags and the wait state alone, NMI not disarmed. -/
theorem of_registers (h1 : t.memMap = s.memMap) (h2 : t.nmiArming = s.nmiArming) (h3 : t.undefinedFlag = s.undefinedFlag)
    (h4 : t.irqEnv = s.irqEnv) (h5 : t.nmiPending = s.nmiPending) (h6 : t.mem = s.mem) (h7 : t.deviceLog = s.deviceLog)
    (h8 : t.draws = s.draws) (h9 : s.nmiArmed = true → t.nmiArmed = true) : Evolves s t :=
  ⟨h1, h2, h3, h4, h5, fun h => h6 ▸ h, fun _ a _ => by simp only [State.byteAt, h6], ⟨[], by simp [h7]⟩, h8.ge, h9⟩

theorem setA (s : State) (v : Byte) : Evolves s (s.setA v) := of_registers rfl rfl rfl rfl rfl rfl rfl rfl id
theorem setB (s : State) (v : Byte) : Evolves s (s.setB v) := of_registers rfl rfl rfl rfl rfl rfl rfl rfl id
theorem setD (s : State) (v : Word) : Evolves s (s.setD v) := of_registers rfl rfl rfl rfl rfl rfl rfl rfl id
theorem setX (s : State) (v : Word) : Evolves s (s.setX v) := of_registers rfl rfl rfl rfl rfl rfl rfl rfl id
theorem setY (s : State) (v : Word) : Evolves s (s.setY v) := of_registers rfl rfl rfl rfl rfl rfl rfl rfl id
theorem setU (s : State) (v : Word) : Evolves s (s.setU v) := of_registers rfl rfl rfl rfl rfl rfl rfl rfl id
theorem setS (s : State) (v : Word) : Evolves s (s.setS v) := of_registers rfl rfl rfl rfl rfl rfl rfl rfl id
theorem setPC (s : State) (v : Word) : Evolves s (s.setPC v) := of_registers rfl rfl rfl rfl rfl rfl rfl rfl id
theorem setDP (s : State) (v : Byte) : Evolves s (s.setDP v) := of_registers rfl rfl rfl rfl rfl rfl rfl rfl id
theorem setCC (s : State) (v : Byte) : Evolves s (s.setCC v) := of_registers rfl rfl rfl rfl rfl rfl rfl rfl id
theorem setWait (s : State) (w : WaitState) : Evolves s (s.setWait w) := of_registers rfl rfl rfl rfl rfl rfl rfl rfl id

theorem loadS (s : State) (k : Bool) (v : Word) : Evolves s (s.loadS k v) :=
  of_registers rfl rfl rfl rfl rfl rfl rfl rfl fun h => by simp [h]

theorem setIndex (s : State) (r : IndexReg) (v : Word) : Evolves s (s.setIndex r v) := by
  cases r <;> [exact setX s v; exact setY s v; exact setU s v; exact setS s v]

theorem setReg16 (s : State) (r : Reg16) (v : Word) : Evolves s (s.setReg16 r v) := by
  cases r <;> [exact setD s v; exact setX s v; exact setY s v; exact setU s v; exact loadS s false v; exact setPC s v]

theorem setReg8 (s : State) (r : Reg8) (v : Byte) : Evolves s (s.setReg8 r v) := by
  cases r <;> [exact setA s v; exact setB s v; exact setCC s v; exact setDP s v]

theorem setAcc (s : State) (acc : Acc) (v : Byte) : Evolves s (s.setAcc acc v) := by
  cases acc <;> [exact setA s v; exact setB s v]

theorem setSP (s : State) (p : StackPtr) (v : Word) : Evolves s (s.setSP p v) := by
  cases p <;> [exact setS s v; exact setU s v]

theorem setOtherSP (s : State) (p : StackPtr) (v : Word) : Evolves s (s.setOtherSP p v) := by
  cases p <;> [exact setU s v; exact loadS s false v]

theorem readByte (s : State) (a : Word) : Evolves s (s.readByte a).2 := by
  unfold State.readByte
  split
  · exact refl s
  · exact refl s
  · exact ⟨rfl, rfl, rfl, rfl, rfl, id, fun _ _ _ => rfl, ⟨[], rfl⟩, Nat.le_succ _, id⟩
  · exact ⟨rfl, rfl, rfl, rfl, rfl, id, fun _ _ _ => rfl, ⟨[_], rfl⟩, Nat.le_succ _, id⟩

theorem writeByte (s : State) (a : Word) (v : Byte) : Evolves s (s.writeByte a v) where
  memMap := s.writeByte_memMap a v
  nmiArming := (s.writeByte_changes a v).1.2.1
  undefinedFlag := (s.writeByte_changes a v).1.2.2
  irqEnv := (s.writeByte_changes a v).2 .irqEnv (by simp)
  nmiPending := (s.writeByte_changes a v).2 .nmiPending (by simp)
  wf := s.writeByte_wf a v
  content h c hc := by
    by_cases e : c = a
    · subst e
      rw [(s.writeByte_stores c v h).2.1 (c, v) (by simp), if_neg hc]
    · exact (s.writeByte_stores a v h).1 c (by simpa using fun e' => e e'.symm)
  log := by
    unfold State.writeByte
    split <;> first | exact ⟨[], rfl⟩ | exact ⟨[_], rfl⟩
  draws := ((s.writeByte_changes a v).2 .draws (by simp)).ge
  armed h := ((s.writeByte_changes a v).2 .nmiArmed (by simp)).trans h

theorem readWord (s : State) (a : Word) : Evolves s (s.readWord a).2 := (readByte s a).trans (readByte _ _)

theorem writeWord (s : State) (a v : Word) : Evolves s (s.writeWord a v) := (writeByte s a _).trans (writeByte _ _ _)

theorem undefinedBit (s : State) (fl : Flag) : Evolves s (s.undefinedBit fl).2 := by
  unfold State.undefinedBit
  split
  · exact ⟨rfl, rfl, rfl, rfl, rfl, id, fun _ _ _ => rfl, ⟨[], rfl⟩, Nat.le_succ _, id⟩
  · exact refl s

theorem indirect (s : State) (ind : Bool) (ea : Word) : Evolves s (s.indirect ind ea).2 := by
  cases ind <;> [exact refl s; exact readWord s ea]

theorem indexedEA (s : State) (ix : Indexed) : Evolves s (s.indexedEA ix).2 := by
  cases ix with
  | off5 r n => exact refl s
  | inc1 r => exact setIndex s r _
  | dec1 r => exact setIndex s r _
  | inc2 r ind => exact (setIndex s r _).trans (indirect _ ind _)
  | dec2 r ind => exact (setIndex s r _).trans (indirect _ ind _)
  | off0 r ind => exact indirect s ind _
  | off8 r n ind => exact indirect s ind _
  | off16 r n ind => exact indirect s ind _
  | accA r ind => exact indirect s ind _
  | accB r ind => exact indirect s ind _
  | accD r ind => exact indirect s ind _
  | pcr8 n ind => exact indirect s ind _
  | pcr16 n ind => exact indirect s ind _
  | extInd addr => exact indirect s true _

theorem resolveEA (s : State) (m : MemOperand) : Evolves s (s.resolveEA m).2 := by
  cases m <;> [exact refl s; exact refl s; exact indexedEA s _]

theorem operand8 (s : State) (op : Operand8) : Evolves s (s.operand8 op).2 := by
  cases op <;> [exact refl s; exact (resolveEA s _).trans (readByte _ _)]

theorem operand16 (s : State) (op : Operand16) : Evolves s (s.operand16 op).2 := by
  cases op <;> [exact refl s; exact (resolveEA s _).trans (readWord _ _)]

/-! ## Stacks -/

theorem push8 (s : State) (p : StackPtr) (v : Byte) : Evolves s (s.push8 p v) := (setSP s p _).trans (writeByte _ _ _)

theorem push16 (s : State) (p : StackPtr) (v : Word) : Evolves s (s.push16 p v) := (push8 s p _).trans (push8 _ p _)

theorem pull8 (s : State) (p : StackPtr) : Evolves s (s.pull8 p).2 := (readByte s _).trans (setSP _ p _)

theorem pull16 (s : State) (p : StackPtr) : Evolves s (s.pull16 p).2 := (pull8 s p).trans (pull8 _ p)

theorem push8If (s : State) (b : Bool) (p : StackPtr) (v : Byte) : Evolves s (s.push8If b p v) := by
  cases b <;> [exact refl s; exact push8 s p v]

theorem push16If (s : State) (b : Bool) (p : StackPtr) (v : Word) : Evolves s (s.push16If b p v) := by
  cases b <;> [exact refl s; exact push16 s p v]

theorem pull8If (s : State) (b : Bool) (p : StackPtr) (set : State → Byte → State) (h : ∀ t v, Evolves t (set t v)) :
    Evolves s (s.pull8If b p set) := by
  cases b <;> [exact refl s; exact (pull8 s p).trans (h _ _)]

theorem pull16If (s : State) (b : Bool) (p : StackPtr) (set : State → Word → State) (h : ∀ t v, Evolves t (set t v)) :
    Evolves s (s.pull16If b p set) := by
  cases b <;> [exact refl s; exact (pull16 s p).trans (h _ _)]

theorem pushRegisters (s : State) (p : StackPtr) (pb : Byte) : Evolves s (s.pushRegisters p pb) :=
  (((((((push16If s _ p _).trans (push16If _ _ p _)).trans (push16If _ _ p _)).trans (push16If _ _ p _)).trans
    (push8If _ _ p _)).trans (push8If _ _ p _)).trans (push8If _ _ p _)).trans (push8If _ _ p _)

theorem pullRegisters (s : State) (p : StackPtr) (pb : Byte) : Evolves s (s.pullRegisters p pb) :=
  (((((((pull8If s _ p _ setCC).trans (pull8If _ _ p _ setA)).trans (pull8If _ _ p _ setB)).trans
    (pull8If _ _ p _ setDP)).trans (pull16If _ _ p _ setX)).trans (pull16If _ _ p _ setY)).trans
    (pull16If _ _ p _ fun t v => setOtherSP t p v)).trans (pull16If _ _ p _ setPC)

theorem pushEntire (s : State) : Evolves s s.pushEntire :=
  (((((((push16 s _ _).trans (push16 _ _ _)).trans (push16 _ _ _)).trans (push16 _ _ _)).trans (push8 _ _ _)).trans
    (push8 _ _ _)).trans (push8 _ _ _)).trans (push8 _ _ _)

/-! ## Exceptions -/

theorem pushFrame (s : State) (ev : Event) : Evolves s (s.pushFrame ev) := by
  have h := setCC s (ccPut s.cc .e ev.entire)
  unfold State.pushFrame
  generalize s.setCC (ccPut s.cc .e ev.entire) = t at h ⊢
  dsimp only
  split
  · exact h.trans (pushEntire t)
  · exact (h.trans (push16 t .s t.pc)).trans (push8 _ .s _)

theorem enterVector (s : State) (ev : Event) : Evolves s (s.enterVector ev) :=
  ((setCC s _).trans (readWord _ _)).trans (setPC _ _)

theorem takeException (s : State) (ev : Event) : Evolves s (s.takeException ev) :=
  (pushFrame s ev).trans (enterVector _ ev)

/-- A pull into a register. -/
theorem pulled8 (s : State) (p : StackPtr) (set : State → Byte → State) (h : ∀ t v, Evolves t (set t v)) {v : Byte}
    {t : State} (e : s.pull8 p = (v, t)) : Evolves s (set t v) :=
  Evolves.trans (by simpa only [e] using pull8 s p) (h t v)

/-- As `pulled8`. -/
theorem pulled16 (s : State) (p : StackPtr) (set : State → Word → State) (h : ∀ t v, Evolves t (set t v)) {v : Word}
    {t : State} (e : s.pull16 p = (v, t)) : Evolves s (set t v) :=
  Evolves.trans (by simpa only [e] using pull16 s p) (h t v)

theorem pullEntireRegisters (s : State) : Evolves s s.pullEntireRegisters := by
  unfold State.pullEntireRegisters
  rcases e1 : s.pull8 .s with ⟨v1, s1⟩
  dsimp only
  refine (pulled8 s .s _ setA e1).trans ?_
  generalize s1.setA v1 = s1
  rcases e2 : s1.pull8 .s with ⟨v2, s2⟩
  dsimp only
  refine (pulled8 s1 .s _ setB e2).trans ?_
  generalize s2.setB v2 = s2
  rcases e3 : s2.pull8 .s with ⟨v3, s3⟩
  dsimp only
  refine (pulled8 s2 .s _ setDP e3).trans ?_
  generalize s3.setDP v3 = s3
  rcases e4 : s3.pull16 .s with ⟨v4, s4⟩
  dsimp only
  refine (pulled16 s3 .s _ setX e4).trans ?_
  generalize s4.setX v4 = s4
  rcases e5 : s4.pull16 .s with ⟨v5, s5⟩
  dsimp only
  refine (pulled16 s4 .s _ setY e5).trans ?_
  generalize s5.setY v5 = s5
  rcases e6 : s5.pull16 .s with ⟨v6, s6⟩
  exact pulled16 s5 .s _ setU e6

theorem returnFromException (s : State) : Evolves s s.returnFromException := by
  unfold State.returnFromException
  rcases e1 : s.pull8 .s with ⟨v1, s1⟩
  dsimp only
  refine (pulled8 s .s _ setCC e1).trans ?_
  generalize s1.setCC v1 = s1
  refine Evolves.trans (t := if ccGet s1.cc .e then s1.pullEntireRegisters else s1) ?_ ?_
  · split
    · exact pullEntireRegisters s1
    · exact refl s1
  · generalize (if ccGet s1.cc .e then s1.pullEntireRegisters else s1) = s2
    rcases e2 : s2.pull16 .s with ⟨v2, s3⟩
    exact pulled16 s2 .s _ setPC e2

/-! ## Flags and results -/

theorem setLogicFlags8 (s : State) (v : Byte) : Evolves s (s.setLogicFlags8 v) := setCC s _

theorem setLogicFlags16 (s : State) (v : Word) : Evolves s (s.setLogicFlags16 v) := setCC s _

theorem store8 (s : State) (ea : Word) (v : Byte) : Evolves s (s.store8 ea v) := (writeByte s ea v).trans (setCC _ _)

theorem store16 (s : State) (ea v : Word) : Evolves s (s.store16 ea v) := (writeWord s ea v).trans (setCC _ _)

theorem addAcc (s : State) (acc : Acc) (m : Byte) (c : Bool) : Evolves s (s.addAcc acc m c) :=
  (setAcc s acc _).trans (setCC _ _)

theorem subtract8 (s : State) (v m : Byte) (b : Bool) : Evolves s (s.subtract8 v m b).2 :=
  (undefinedBit s .h).trans (setCC _ _)

theorem subAcc (s : State) (acc : Acc) (m : Byte) (b : Bool) : Evolves s (s.subAcc acc m b) :=
  (subtract8 s _ m b).trans (setAcc _ acc _)

theorem logicAcc (s : State) (acc : Acc) (v : Byte) : Evolves s (s.logicAcc acc v) :=
  (setAcc s acc v).trans (setCC _ _)

theorem branch (s : State) (c : Cond) (rel : Word) : Evolves s (s.branch c rel) := by
  unfold State.branch
  split <;> [exact setPC s _; exact refl s]

theorem call (s : State) (target : Word) : Evolves s (s.call target) := (push16 s _ _).trans (setPC _ _)

theorem modifyAcc (s : State) (acc : Acc) (f : State → Byte → Byte × State) (h : ∀ t v, Evolves t (f t v).2) :
    Evolves s (s.modifyAcc acc f) := (h s _).trans (setAcc _ acc _)

theorem modifyMemory (s : State) (m : MemOperand) (f : State → Byte → Byte × State) (h : ∀ t v, Evolves t (f t v).2) :
    Evolves s (s.modifyMemory m f) :=
  (((resolveEA s m).trans (readByte _ _)).trans (h _ _)).trans (writeByte _ _ _)

theorem withFlags (s : State) (f : Byte → Byte → Byte × Byte) (m : Byte) : Evolves s (s.withFlags f m).2 := setCC s _

theorem asrValue (s : State) (m : Byte) : Evolves s (s.asrValue m).2 := (undefinedBit s .h).trans (setCC _ _)

theorem aslValue (s : State) (m : Byte) : Evolves s (s.aslValue m).2 := (undefinedBit s .h).trans (setCC _ _)

/-! ## The fetch -/

theorem fetchByte (s : State) : Evolves s s.fetchByte.2 := (readByte s _).trans (setPC _ _)

theorem fetchMore (n : Nat) : ∀ (s : State) (bs : List Byte), Evolves s (s.fetchMore n bs).2 := by
  induction n with
  | zero => intro s bs; exact refl s
  | succ n ih =>
    intro s bs
    unfold State.fetchMore
    split
    · exact (fetchByte s).trans (ih _ _)
    · exact refl s

theorem fetch (s : State) : Evolves s s.fetch.2 := fetchMore maxInstrBytes s []

end Evolves

end Sys2Proof.Machine
end

