-- ==== Sys2Proof/Laws/Exec.lean ====
section
/-! SUPPORT. What each instruction with an operand does, as one equation: the operand or the address first, then the
operation on the state that leaves. True by `rfl`. -/

namespace Sys2Proof.Machine

variable (s : State)

theorem exec_lda (op : Operand8) :
    exec (.lda op) s = .next (((s.operand8 op).2.setA (s.operand8 op).1).setLogicFlags8 (s.operand8 op).1) := rfl

theorem exec_ldb (op : Operand8) :
    exec (.ldb op) s = .next (((s.operand8 op).2.setB (s.operand8 op).1).setLogicFlags8 (s.operand8 op).1) := rfl

theorem exec_ldd (op : Operand16) :
    exec (.ldd op) s = .next (((s.operand16 op).2.setD (s.operand16 op).1).setLogicFlags16 (s.operand16 op).1) := rfl

theorem exec_ldx (op : Operand16) :
    exec (.ldx op) s = .next (((s.operand16 op).2.setX (s.operand16 op).1).setLogicFlags16 (s.operand16 op).1) := rfl

theorem exec_ldy (op : Operand16) :
    exec (.ldy op) s = .next (((s.operand16 op).2.setY (s.operand16 op).1).setLogicFlags16 (s.operand16 op).1) := rfl

theorem exec_ldu (op : Operand16) :
    exec (.ldu op) s = .next (((s.operand16 op).2.setU (s.operand16 op).1).setLogicFlags16 (s.operand16 op).1) := rfl

theorem exec_lds (op : Operand16) :
    exec (.lds op) s = .next (((s.operand16 op).2.loadS true (s.operand16 op).1).setLogicFlags16 (s.operand16 op).1) := rfl

theorem exec_sta (m : MemOperand) :
    exec (.sta m) s = .next ((s.resolveEA m).2.store8 (s.resolveEA m).1 (s.resolveEA m).2.a) := rfl

theorem exec_stb (m : MemOperand) :
    exec (.stb m) s = .next ((s.resolveEA m).2.store8 (s.resolveEA m).1 (s.resolveEA m).2.b) := rfl

theorem exec_std (m : MemOperand) :
    exec (.std m) s = .next ((s.resolveEA m).2.store16 (s.resolveEA m).1 (s.resolveEA m).2.d) := rfl

theorem exec_stx (m : MemOperand) :
    exec (.stx m) s = .next ((s.resolveEA m).2.store16 (s.resolveEA m).1 (s.resolveEA m).2.x) := rfl

theorem exec_sty (m : MemOperand) :
    exec (.sty m) s = .next ((s.resolveEA m).2.store16 (s.resolveEA m).1 (s.resolveEA m).2.y) := rfl

theorem exec_stu (m : MemOperand) :
    exec (.stu m) s = .next ((s.resolveEA m).2.store16 (s.resolveEA m).1 (s.resolveEA m).2.u) := rfl

theorem exec_sts (m : MemOperand) :
    exec (.sts m) s = .next ((s.resolveEA m).2.store16 (s.resolveEA m).1 (s.resolveEA m).2.s) := rfl

theorem exec_adda (op : Operand8) :
    exec (.adda op) s = .next ((s.operand8 op).2.addAcc .a (s.operand8 op).1 false) := rfl

theorem exec_adca (op : Operand8) :
    exec (.adca op) s = .next ((s.operand8 op).2.addAcc .a (s.operand8 op).1 (ccGet (s.operand8 op).2.cc .c)) := rfl

theorem exec_suba (op : Operand8) :
    exec (.suba op) s = .next ((s.operand8 op).2.subAcc .a (s.operand8 op).1 false) := rfl

theorem exec_sbca (op : Operand8) :
    exec (.sbca op) s = .next ((s.operand8 op).2.subAcc .a (s.operand8 op).1 (ccGet (s.operand8 op).2.cc .c)) := rfl

theorem exec_addb (op : Operand8) :
    exec (.addb op) s = .next ((s.operand8 op).2.addAcc .b (s.operand8 op).1 false) := rfl

theorem exec_adcb (op : Operand8) :
    exec (.adcb op) s = .next ((s.operand8 op).2.addAcc .b (s.operand8 op).1 (ccGet (s.operand8 op).2.cc .c)) := rfl

theorem exec_subb (op : Operand8) :
    exec (.subb op) s = .next ((s.operand8 op).2.subAcc .b (s.operand8 op).1 false) := rfl

theorem exec_sbcb (op : Operand8) :
    exec (.sbcb op) s = .next ((s.operand8 op).2.subAcc .b (s.operand8 op).1 (ccGet (s.operand8 op).2.cc .c)) := rfl

theorem exec_addd (op : Operand16) :
    exec (.addd op) s = .next (((s.operand16 op).2.setD (add16 (s.operand16 op).2.cc (s.operand16 op).2.d (s.operand16 op).1).1).setCC (add16 (s.operand16 op).2.cc (s.operand16 op).2.d (s.operand16 op).1).2) := rfl

theorem exec_subd (op : Operand16) :
    exec (.subd op) s = .next (((s.operand16 op).2.setD (sub16 (s.operand16 op).2.cc (s.operand16 op).2.d (s.operand16 op).1).1).setCC (sub16 (s.operand16 op).2.cc (s.operand16 op).2.d (s.operand16 op).1).2) := rfl

theorem exec_anda (op : Operand8) :
    exec (.anda op) s = .next ((s.operand8 op).2.logicAcc .a ((s.operand8 op).2.a &&& (s.operand8 op).1)) := rfl

theorem exec_andb (op : Operand8) :
    exec (.andb op) s = .next ((s.operand8 op).2.logicAcc .b ((s.operand8 op).2.b &&& (s.operand8 op).1)) := rfl

theorem exec_eora (op : Operand8) :
    exec (.eora op) s = .next ((s.operand8 op).2.logicAcc .a ((s.operand8 op).2.a ^^^ (s.operand8 op).1)) := rfl

theorem exec_eorb (op : Operand8) :
    exec (.eorb op) s = .next ((s.operand8 op).2.logicAcc .b ((s.operand8 op).2.b ^^^ (s.operand8 op).1)) := rfl

theorem exec_ora (op : Operand8) :
    exec (.ora op) s = .next ((s.operand8 op).2.logicAcc .a ((s.operand8 op).2.a ||| (s.operand8 op).1)) := rfl

theorem exec_orb (op : Operand8) :
    exec (.orb op) s = .next ((s.operand8 op).2.logicAcc .b ((s.operand8 op).2.b ||| (s.operand8 op).1)) := rfl

theorem exec_bita (op : Operand8) :
    exec (.bita op) s = .next ((s.operand8 op).2.setLogicFlags8 ((s.operand8 op).2.a &&& (s.operand8 op).1)) := rfl

theorem exec_cmpa (op : Operand8) :
    exec (.cmpa op) s = .next ((s.operand8 op).2.compare8 (s.operand8 op).2.a (s.operand8 op).1) := rfl

theorem exec_bitb (op : Operand8) :
    exec (.bitb op) s = .next ((s.operand8 op).2.setLogicFlags8 ((s.operand8 op).2.b &&& (s.operand8 op).1)) := rfl

theorem exec_cmpb (op : Operand8) :
    exec (.cmpb op) s = .next ((s.operand8 op).2.compare8 (s.operand8 op).2.b (s.operand8 op).1) := rfl

theorem exec_cmpd (op : Operand16) :
    exec (.cmpd op) s = .next ((s.operand16 op).2.compare16 (s.operand16 op).2.d (s.operand16 op).1) := rfl

theorem exec_cmpx (op : Operand16) :
    exec (.cmpx op) s = .next ((s.operand16 op).2.compare16 (s.operand16 op).2.x (s.operand16 op).1) := rfl

theorem exec_cmpy (op : Operand16) :
    exec (.cmpy op) s = .next ((s.operand16 op).2.compare16 (s.operand16 op).2.y (s.operand16 op).1) := rfl

theorem exec_cmpu (op : Operand16) :
    exec (.cmpu op) s = .next ((s.operand16 op).2.compare16 (s.operand16 op).2.u (s.operand16 op).1) := rfl

theorem exec_cmps (op : Operand16) :
    exec (.cmps op) s = .next ((s.operand16 op).2.compare16 (s.operand16 op).2.s (s.operand16 op).1) := rfl

theorem exec_tst (m : MemOperand) :
    exec (.tst m) s = .next (((s.resolveEA m).2.readByte (s.resolveEA m).1).2.setLogicFlags8 ((s.resolveEA m).2.readByte (s.resolveEA m).1).1) := rfl

theorem exec_jmp (m : MemOperand) :
    exec (.jmp m) s = .next ((s.resolveEA m).2.setPC (s.resolveEA m).1) := rfl

theorem exec_jsr (m : MemOperand) :
    exec (.jsr m) s = .next ((s.resolveEA m).2.call (s.resolveEA m).1) := rfl

theorem exec_leax (ix : Indexed) :
    exec (.leax ix) s = .next (((s.indexedEA ix).2.setX (s.indexedEA ix).1).setCC (ccPut (s.indexedEA ix).2.cc .z ((s.indexedEA ix).1 == 0#16))) := rfl

theorem exec_leay (ix : Indexed) :
    exec (.leay ix) s = .next (((s.indexedEA ix).2.setY (s.indexedEA ix).1).setCC (ccPut (s.indexedEA ix).2.cc .z ((s.indexedEA ix).1 == 0#16))) := rfl

theorem exec_leas (ix : Indexed) :
    exec (.leas ix) s = .next ((s.indexedEA ix).2.loadS false (s.indexedEA ix).1) := rfl

theorem exec_leau (ix : Indexed) :
    exec (.leau ix) s = .next ((s.indexedEA ix).2.setU (s.indexedEA ix).1) := rfl

theorem exec_rts :
    exec (.rts) s = .next ((s.pull16 .s).2.setPC (s.pull16 .s).1) := rfl

/-- An operation on a byte of memory: one read, then one write to the same address (20_memory.md R61). -/
theorem State.modifyMemory_eq (m : MemOperand) (f : State → Byte → Byte × State) :
    s.modifyMemory m f =
      (f ((s.resolveEA m).2.readByte (s.resolveEA m).1).2 ((s.resolveEA m).2.readByte (s.resolveEA m).1).1).2.writeByte (s.resolveEA m).1
        (f ((s.resolveEA m).2.readByte (s.resolveEA m).1).2 ((s.resolveEA m).2.readByte (s.resolveEA m).1).1).1 := rfl

end Sys2Proof.Machine
end

