-- ==== Sys2Proof/Laws/PerInstr.lean ====
section
/-! SUPPORT. Statements about every instruction, one lemma per constructor: the length of an encoding. -/

namespace Sys2Proof.Laws.EncodedLength

/-- An instruction is 1 to 5 bytes long (30_encoding.md R70). -/
def Statement (i : Instr) : Prop := 1 ≤ (encode i).length ∧ (encode i).length ≤ 5

/-- The bytes of an indexed operand: the postbyte and at most two more. -/
theorem indexed_length (ix : Indexed) : 1 ≤ (encodeIndexed ix).length ∧ (encodeIndexed ix).length ≤ 3 := by
  cases ix <;> simp [encodeIndexed]

/-- A memory operand under its opcode, with at most one page byte. -/
theorem mem_length (page : List Byte) (dir idx ext : Byte) (m : MemOperand) (h : page.length ≤ 1) :
    1 ≤ (encodeMem page dir idx ext m).length ∧ (encodeMem page dir idx ext m).length ≤ 5 := by
  cases m with
  | dir off => simp [encodeMem]; omega
  | ext addr => simp [encodeMem]; omega
  | idx ix => have := indexed_length ix; simp [encodeMem]; omega

/-- As `mem_length`, with the immediate form of an 8-bit instruction. -/
theorem op8_length (page : List Byte) (code : Byte) (op : Operand8) (h : page.length ≤ 1) :
    1 ≤ (encodeOp8 page code op).length ∧ (encodeOp8 page code op).length ≤ 5 := by
  cases op with
  | imm v => simp [encodeOp8]; omega
  | mem m => exact mem_length page _ _ _ m h

/-- LEA: the opcode and the indexed operand. -/
theorem lea_length (op : Byte) (ix : Indexed) :
    1 ≤ (op :: encodeIndexed ix).length ∧ (op :: encodeIndexed ix).length ≤ 5 := by
  have := indexed_length ix
  simp only [List.length_cons]
  omega

/-- As `mem_length`, with the immediate form of a 16-bit instruction. -/
theorem op16_length (page : List Byte) (code : Byte) (op : Operand16) (h : page.length ≤ 1) :
    1 ≤ (encodeOp16 page code op).length ∧ (encodeOp16 page code op).length ≤ 5 := by
  cases op with
  | imm v => simp [encodeOp16]; omega
  | mem m => exact mem_length page _ _ _ m h

theorem exg (r1 r2 : Reg) : Statement (.exg r1 r2) := ⟨Nat.le_of_ble_eq_true rfl, Nat.le_of_ble_eq_true rfl⟩
theorem tfr (r1 r2 : Reg) : Statement (.tfr r1 r2) := ⟨Nat.le_of_ble_eq_true rfl, Nat.le_of_ble_eq_true rfl⟩
theorem lda (op : Operand8) : Statement (.lda op) := op8_length _ _ op (Nat.zero_le 1)
theorem ldb (op : Operand8) : Statement (.ldb op) := op8_length _ _ op (Nat.zero_le 1)
theorem ldd (op : Operand16) : Statement (.ldd op) := op16_length _ _ op (Nat.zero_le 1)
theorem ldx (op : Operand16) : Statement (.ldx op) := op16_length _ _ op (Nat.zero_le 1)
theorem ldy (op : Operand16) : Statement (.ldy op) := op16_length _ _ op (Nat.le_refl 1)
theorem ldu (op : Operand16) : Statement (.ldu op) := op16_length _ _ op (Nat.zero_le 1)
theorem lds (op : Operand16) : Statement (.lds op) := op16_length _ _ op (Nat.le_refl 1)
theorem sta (m : MemOperand) : Statement (.sta m) := mem_length _ _ _ _ m (Nat.zero_le 1)
theorem stb (m : MemOperand) : Statement (.stb m) := mem_length _ _ _ _ m (Nat.zero_le 1)
theorem std (m : MemOperand) : Statement (.std m) := mem_length _ _ _ _ m (Nat.zero_le 1)
theorem stx (m : MemOperand) : Statement (.stx m) := mem_length _ _ _ _ m (Nat.zero_le 1)
theorem sty (m : MemOperand) : Statement (.sty m) := mem_length _ _ _ _ m (Nat.le_refl 1)
theorem stu (m : MemOperand) : Statement (.stu m) := mem_length _ _ _ _ m (Nat.zero_le 1)
theorem sts (m : MemOperand) : Statement (.sts m) := mem_length _ _ _ _ m (Nat.le_refl 1)
theorem pshs (pb : Byte) : Statement (.pshs pb) := ⟨Nat.le_of_ble_eq_true rfl, Nat.le_of_ble_eq_true rfl⟩
theorem pshu (pb : Byte) : Statement (.pshu pb) := ⟨Nat.le_of_ble_eq_true rfl, Nat.le_of_ble_eq_true rfl⟩
theorem puls (pb : Byte) : Statement (.puls pb) := ⟨Nat.le_of_ble_eq_true rfl, Nat.le_of_ble_eq_true rfl⟩
theorem pulu (pb : Byte) : Statement (.pulu pb) := ⟨Nat.le_of_ble_eq_true rfl, Nat.le_of_ble_eq_true rfl⟩
theorem adda (op : Operand8) : Statement (.adda op) := op8_length _ _ op (Nat.zero_le 1)
theorem addb (op : Operand8) : Statement (.addb op) := op8_length _ _ op (Nat.zero_le 1)
theorem addd (op : Operand16) : Statement (.addd op) := op16_length _ _ op (Nat.zero_le 1)
theorem adca (op : Operand8) : Statement (.adca op) := op8_length _ _ op (Nat.zero_le 1)
theorem adcb (op : Operand8) : Statement (.adcb op) := op8_length _ _ op (Nat.zero_le 1)
theorem abx : Statement .abx := ⟨Nat.le_of_ble_eq_true rfl, Nat.le_of_ble_eq_true rfl⟩
theorem daa : Statement .daa := ⟨Nat.le_of_ble_eq_true rfl, Nat.le_of_ble_eq_true rfl⟩
theorem mul : Statement .mul := ⟨Nat.le_of_ble_eq_true rfl, Nat.le_of_ble_eq_true rfl⟩
theorem suba (op : Operand8) : Statement (.suba op) := op8_length _ _ op (Nat.zero_le 1)
theorem subb (op : Operand8) : Statement (.subb op) := op8_length _ _ op (Nat.zero_le 1)
theorem subd (op : Operand16) : Statement (.subd op) := op16_length _ _ op (Nat.zero_le 1)
theorem sbca (op : Operand8) : Statement (.sbca op) := op8_length _ _ op (Nat.zero_le 1)
theorem sbcb (op : Operand8) : Statement (.sbcb op) := op8_length _ _ op (Nat.zero_le 1)
theorem sex : Statement .sex := ⟨Nat.le_of_ble_eq_true rfl, Nat.le_of_ble_eq_true rfl⟩
theorem anda (op : Operand8) : Statement (.anda op) := op8_length _ _ op (Nat.zero_le 1)
theorem andb (op : Operand8) : Statement (.andb op) := op8_length _ _ op (Nat.zero_le 1)
theorem eora (op : Operand8) : Statement (.eora op) := op8_length _ _ op (Nat.zero_le 1)
theorem eorb (op : Operand8) : Statement (.eorb op) := op8_length _ _ op (Nat.zero_le 1)
theorem ora (op : Operand8) : Statement (.ora op) := op8_length _ _ op (Nat.zero_le 1)
theorem orb (op : Operand8) : Statement (.orb op) := op8_length _ _ op (Nat.zero_le 1)
theorem andcc (imm8 : Byte) : Statement (.andcc imm8) := ⟨Nat.le_of_ble_eq_true rfl, Nat.le_of_ble_eq_true rfl⟩
theorem orcc (imm8 : Byte) : Statement (.orcc imm8) := ⟨Nat.le_of_ble_eq_true rfl, Nat.le_of_ble_eq_true rfl⟩
theorem asra : Statement .asra := ⟨Nat.le_of_ble_eq_true rfl, Nat.le_of_ble_eq_true rfl⟩
theorem asrb : Statement .asrb := ⟨Nat.le_of_ble_eq_true rfl, Nat.le_of_ble_eq_true rfl⟩
theorem asr (m : MemOperand) : Statement (.asr m) := mem_length _ _ _ _ m (Nat.zero_le 1)
theorem asla : Statement .asla := ⟨Nat.le_of_ble_eq_true rfl, Nat.le_of_ble_eq_true rfl⟩
theorem aslb : Statement .aslb := ⟨Nat.le_of_ble_eq_true rfl, Nat.le_of_ble_eq_true rfl⟩
theorem asl (m : MemOperand) : Statement (.asl m) := mem_length _ _ _ _ m (Nat.zero_le 1)
theorem lsra : Statement .lsra := ⟨Nat.le_of_ble_eq_true rfl, Nat.le_of_ble_eq_true rfl⟩
theorem lsrb : Statement .lsrb := ⟨Nat.le_of_ble_eq_true rfl, Nat.le_of_ble_eq_true rfl⟩
theorem lsr (m : MemOperand) : Statement (.lsr m) := mem_length _ _ _ _ m (Nat.zero_le 1)
theorem rola : Statement .rola := ⟨Nat.le_of_ble_eq_true rfl, Nat.le_of_ble_eq_true rfl⟩
theorem rolb : Statement .rolb := ⟨Nat.le_of_ble_eq_true rfl, Nat.le_of_ble_eq_true rfl⟩
theorem rol (m : MemOperand) : Statement (.rol m) := mem_length _ _ _ _ m (Nat.zero_le 1)
theorem rora : Statement .rora := ⟨Nat.le_of_ble_eq_true rfl, Nat.le_of_ble_eq_true rfl⟩
theorem rorb : Statement .rorb := ⟨Nat.le_of_ble_eq_true rfl, Nat.le_of_ble_eq_true rfl⟩
theorem ror (m : MemOperand) : Statement (.ror m) := mem_length _ _ _ _ m (Nat.zero_le 1)
theorem clra : Statement .clra := ⟨Nat.le_of_ble_eq_true rfl, Nat.le_of_ble_eq_true rfl⟩
theorem clrb : Statement .clrb := ⟨Nat.le_of_ble_eq_true rfl, Nat.le_of_ble_eq_true rfl⟩
theorem clr (m : MemOperand) : Statement (.clr m) := mem_length _ _ _ _ m (Nat.zero_le 1)
theorem deca : Statement .deca := ⟨Nat.le_of_ble_eq_true rfl, Nat.le_of_ble_eq_true rfl⟩
theorem decb : Statement .decb := ⟨Nat.le_of_ble_eq_true rfl, Nat.le_of_ble_eq_true rfl⟩
theorem dec (m : MemOperand) : Statement (.dec m) := mem_length _ _ _ _ m (Nat.zero_le 1)
theorem inca : Statement .inca := ⟨Nat.le_of_ble_eq_true rfl, Nat.le_of_ble_eq_true rfl⟩
theorem incb : Statement .incb := ⟨Nat.le_of_ble_eq_true rfl, Nat.le_of_ble_eq_true rfl⟩
theorem inc (m : MemOperand) : Statement (.inc m) := mem_length _ _ _ _ m (Nat.zero_le 1)
theorem coma : Statement .coma := ⟨Nat.le_of_ble_eq_true rfl, Nat.le_of_ble_eq_true rfl⟩
theorem comb : Statement .comb := ⟨Nat.le_of_ble_eq_true rfl, Nat.le_of_ble_eq_true rfl⟩
theorem com (m : MemOperand) : Statement (.com m) := mem_length _ _ _ _ m (Nat.zero_le 1)
theorem nega : Statement .nega := ⟨Nat.le_of_ble_eq_true rfl, Nat.le_of_ble_eq_true rfl⟩
theorem negb : Statement .negb := ⟨Nat.le_of_ble_eq_true rfl, Nat.le_of_ble_eq_true rfl⟩
theorem neg (m : MemOperand) : Statement (.neg m) := mem_length _ _ _ _ m (Nat.zero_le 1)
theorem nop : Statement .nop := ⟨Nat.le_of_ble_eq_true rfl, Nat.le_of_ble_eq_true rfl⟩
theorem bita (op : Operand8) : Statement (.bita op) := op8_length _ _ op (Nat.zero_le 1)
theorem bitb (op : Operand8) : Statement (.bitb op) := op8_length _ _ op (Nat.zero_le 1)
theorem cmpa (op : Operand8) : Statement (.cmpa op) := op8_length _ _ op (Nat.zero_le 1)
theorem cmpb (op : Operand8) : Statement (.cmpb op) := op8_length _ _ op (Nat.zero_le 1)
theorem cmpd (op : Operand16) : Statement (.cmpd op) := op16_length _ _ op (Nat.le_refl 1)
theorem cmpx (op : Operand16) : Statement (.cmpx op) := op16_length _ _ op (Nat.zero_le 1)
theorem cmpy (op : Operand16) : Statement (.cmpy op) := op16_length _ _ op (Nat.le_refl 1)
theorem cmpu (op : Operand16) : Statement (.cmpu op) := op16_length _ _ op (Nat.le_refl 1)
theorem cmps (op : Operand16) : Statement (.cmps op) := op16_length _ _ op (Nat.le_refl 1)
theorem tsta : Statement .tsta := ⟨Nat.le_of_ble_eq_true rfl, Nat.le_of_ble_eq_true rfl⟩
theorem tstb : Statement .tstb := ⟨Nat.le_of_ble_eq_true rfl, Nat.le_of_ble_eq_true rfl⟩
theorem tst (m : MemOperand) : Statement (.tst m) := mem_length _ _ _ _ m (Nat.zero_le 1)
theorem bra (rel8 : Byte) : Statement (.bra rel8) := ⟨Nat.le_of_ble_eq_true rfl, Nat.le_of_ble_eq_true rfl⟩
theorem brn (rel8 : Byte) : Statement (.brn rel8) := ⟨Nat.le_of_ble_eq_true rfl, Nat.le_of_ble_eq_true rfl⟩
theorem bhi (rel8 : Byte) : Statement (.bhi rel8) := ⟨Nat.le_of_ble_eq_true rfl, Nat.le_of_ble_eq_true rfl⟩
theorem bls (rel8 : Byte) : Statement (.bls rel8) := ⟨Nat.le_of_ble_eq_true rfl, Nat.le_of_ble_eq_true rfl⟩
theorem bcc (rel8 : Byte) : Statement (.bcc rel8) := ⟨Nat.le_of_ble_eq_true rfl, Nat.le_of_ble_eq_true rfl⟩
theorem bcs (rel8 : Byte) : Statement (.bcs rel8) := ⟨Nat.le_of_ble_eq_true rfl, Nat.le_of_ble_eq_true rfl⟩
theorem bne (rel8 : Byte) : Statement (.bne rel8) := ⟨Nat.le_of_ble_eq_true rfl, Nat.le_of_ble_eq_true rfl⟩
theorem beq (rel8 : Byte) : Statement (.beq rel8) := ⟨Nat.le_of_ble_eq_true rfl, Nat.le_of_ble_eq_true rfl⟩
theorem bvc (rel8 : Byte) : Statement (.bvc rel8) := ⟨Nat.le_of_ble_eq_true rfl, Nat.le_of_ble_eq_true rfl⟩
theorem bvs (rel8 : Byte) : Statement (.bvs rel8) := ⟨Nat.le_of_ble_eq_true rfl, Nat.le_of_ble_eq_true rfl⟩
theorem bpl (rel8 : Byte) : Statement (.bpl rel8) := ⟨Nat.le_of_ble_eq_true rfl, Nat.le_of_ble_eq_true rfl⟩
theorem bmi (rel8 : Byte) : Statement (.bmi rel8) := ⟨Nat.le_of_ble_eq_true rfl, Nat.le_of_ble_eq_true rfl⟩
theorem bge (rel8 : Byte) : Statement (.bge rel8) := ⟨Nat.le_of_ble_eq_true rfl, Nat.le_of_ble_eq_true rfl⟩
theorem blt (rel8 : Byte) : Statement (.blt rel8) := ⟨Nat.le_of_ble_eq_true rfl, Nat.le_of_ble_eq_true rfl⟩
theorem bgt (rel8 : Byte) : Statement (.bgt rel8) := ⟨Nat.le_of_ble_eq_true rfl, Nat.le_of_ble_eq_true rfl⟩
theorem ble (rel8 : Byte) : Statement (.ble rel8) := ⟨Nat.le_of_ble_eq_true rfl, Nat.le_of_ble_eq_true rfl⟩
theorem lbra (rel16 : Word) : Statement (.lbra rel16) := ⟨Nat.le_of_ble_eq_true rfl, Nat.le_of_ble_eq_true rfl⟩
theorem lbrn (rel16 : Word) : Statement (.lbrn rel16) := ⟨Nat.le_of_ble_eq_true rfl, Nat.le_of_ble_eq_true rfl⟩
theorem lbhi (rel16 : Word) : Statement (.lbhi rel16) := ⟨Nat.le_of_ble_eq_true rfl, Nat.le_of_ble_eq_true rfl⟩
theorem lbls (rel16 : Word) : Statement (.lbls rel16) := ⟨Nat.le_of_ble_eq_true rfl, Nat.le_of_ble_eq_true rfl⟩
theorem lbcc (rel16 : Word) : Statement (.lbcc rel16) := ⟨Nat.le_of_ble_eq_true rfl, Nat.le_of_ble_eq_true rfl⟩
theorem lbcs (rel16 : Word) : Statement (.lbcs rel16) := ⟨Nat.le_of_ble_eq_true rfl, Nat.le_of_ble_eq_true rfl⟩
theorem lbne (rel16 : Word) : Statement (.lbne rel16) := ⟨Nat.le_of_ble_eq_true rfl, Nat.le_of_ble_eq_true rfl⟩
theorem lbeq (rel16 : Word) : Statement (.lbeq rel16) := ⟨Nat.le_of_ble_eq_true rfl, Nat.le_of_ble_eq_true rfl⟩
theorem lbvc (rel16 : Word) : Statement (.lbvc rel16) := ⟨Nat.le_of_ble_eq_true rfl, Nat.le_of_ble_eq_true rfl⟩
theorem lbvs (rel16 : Word) : Statement (.lbvs rel16) := ⟨Nat.le_of_ble_eq_true rfl, Nat.le_of_ble_eq_true rfl⟩
theorem lbpl (rel16 : Word) : Statement (.lbpl rel16) := ⟨Nat.le_of_ble_eq_true rfl, Nat.le_of_ble_eq_true rfl⟩
theorem lbmi (rel16 : Word) : Statement (.lbmi rel16) := ⟨Nat.le_of_ble_eq_true rfl, Nat.le_of_ble_eq_true rfl⟩
theorem lbge (rel16 : Word) : Statement (.lbge rel16) := ⟨Nat.le_of_ble_eq_true rfl, Nat.le_of_ble_eq_true rfl⟩
theorem lblt (rel16 : Word) : Statement (.lblt rel16) := ⟨Nat.le_of_ble_eq_true rfl, Nat.le_of_ble_eq_true rfl⟩
theorem lbgt (rel16 : Word) : Statement (.lbgt rel16) := ⟨Nat.le_of_ble_eq_true rfl, Nat.le_of_ble_eq_true rfl⟩
theorem lble (rel16 : Word) : Statement (.lble rel16) := ⟨Nat.le_of_ble_eq_true rfl, Nat.le_of_ble_eq_true rfl⟩
theorem jmp (m : MemOperand) : Statement (.jmp m) := mem_length _ _ _ _ m (Nat.zero_le 1)
theorem jsr (m : MemOperand) : Statement (.jsr m) := mem_length _ _ _ _ m (Nat.zero_le 1)
theorem bsr (rel8 : Byte) : Statement (.bsr rel8) := ⟨Nat.le_of_ble_eq_true rfl, Nat.le_of_ble_eq_true rfl⟩
theorem lbsr (rel16 : Word) : Statement (.lbsr rel16) := ⟨Nat.le_of_ble_eq_true rfl, Nat.le_of_ble_eq_true rfl⟩
theorem rts : Statement .rts := ⟨Nat.le_of_ble_eq_true rfl, Nat.le_of_ble_eq_true rfl⟩
theorem leax (ix : Indexed) : Statement (.leax ix) := lea_length _ ix
theorem leay (ix : Indexed) : Statement (.leay ix) := lea_length _ ix
theorem leas (ix : Indexed) : Statement (.leas ix) := lea_length _ ix
theorem leau (ix : Indexed) : Statement (.leau ix) := lea_length _ ix
theorem cwai (imm8 : Byte) : Statement (.cwai imm8) := ⟨Nat.le_of_ble_eq_true rfl, Nat.le_of_ble_eq_true rfl⟩
theorem sync : Statement .sync := ⟨Nat.le_of_ble_eq_true rfl, Nat.le_of_ble_eq_true rfl⟩
theorem rti : Statement .rti := ⟨Nat.le_of_ble_eq_true rfl, Nat.le_of_ble_eq_true rfl⟩
theorem swi : Statement .swi := ⟨Nat.le_of_ble_eq_true rfl, Nat.le_of_ble_eq_true rfl⟩
theorem swi2 : Statement .swi2 := ⟨Nat.le_of_ble_eq_true rfl, Nat.le_of_ble_eq_true rfl⟩
theorem swi3 : Statement .swi3 := ⟨Nat.le_of_ble_eq_true rfl, Nat.le_of_ble_eq_true rfl⟩

end Sys2Proof.Laws.EncodedLength
end

