-- ==== Sys2Proof/Tests/Slice0.lean ====
section
/-! SUPPORT. Tests. The expected values are the spec's: the words come from spec/opcode_table.json and 30_encoding.md,
the outcomes of single instructions from spec/95_test_vectors.md, whose vector each test names. The last section shows,
for every obligation that has hypotheses, states and operands that meet them. -/

/-- Code or data placed in RAM from outside. -/
def Sys2Proof.Machine.State.poke (s : State) (a : Word) (bs : List Byte) : State := s.placeBytes a bs

/-- The bytes at `a` and after it. -/
def Sys2Proof.Machine.State.holds (s : State) (a : Word) : List Byte → Bool
  | [] => true
  | v :: vs => s.byteAt a == v && s.holds (a + 1#16) vs

/-- The vector table `VEC` of spec/95_test_vectors.md. -/
def Sys2Proof.Machine.State.withVectors (s : State) : State :=
  s.poke 0xFFF2#16 [0xE3#8, 0x00#8, 0xE2#8, 0x00#8, 0xE4#8, 0x00#8, 0xE1#8, 0x00#8, 0xE0#8, 0x00#8, 0xE5#8, 0x00#8, 0xF0#8, 0x00#8]

namespace Sys2Proof.Tests

open Machine Claims

/-- The bytes are the whole encoding of the instruction. -/
def decodesAs (bs : List Byte) (i : Instr) : Bool :=
  match decode bs with
  | .ok (j, []) => decide (j = i)
  | .ok (_, _ :: _) => false
  | .error _ => false

/-- The bytes are refused with this error. -/
def refusedAs (bs : List Byte) (e : DecodeError) : Bool :=
  match decode bs with
  | .ok _ => false
  | .error d => decide (d = e)

/-- The outcome is a next state with the property. -/
def gives (r : Result) (p : State → Bool) : Bool :=
  match r with
  | .next t => p t
  | .fault _ => false
  | .refused _ => false

/-- The outcome is this refusal. -/
def refuses (r : Result) (why : Refusal) : Bool :=
  match r with
  | .next _ => false
  | .fault _ => false
  | .refused w => decide (w = why)

/-- The state that the vectors of spec/95_test_vectors.md start from: PC $1000, S $8000, everything else zero, plain RAM,
`undefined_flag = unchanged`. -/
def start : State := { State.reset with pc := 0x1000#16, s := 0x8000#16, cc := 0x00#8, undefinedFlag := .unchanged }

/-! ## Well-formed instructions -/

theorem test_wellFormed_refuses_exg_of_two_sizes : (Instr.exg (.r8 .a) (.r16 .x)).wellFormed = false := by decide
theorem test_wellFormed_refuses_tfr_of_two_sizes : (Instr.tfr (.r16 .d) (.r8 .dp)).wellFormed = false := by decide
theorem test_wellFormed_accepts_exg_of_one_size : (Instr.exg (.r8 .a) (.r8 .cc)).wellFormed = true := by decide
theorem test_wellFormed_accepts_tfr_of_one_size : (Instr.tfr (.r16 .d) (.r16 .pc)).wellFormed = true := by decide

/-! ## Decoding -/

/-- Opcodes of the transfer family, from spec/opcode_table.json, operands laid out as 30_encoding.md R75 to R101 say. -/
theorem test_decode_transfer_a :
    (decodesAs [0x1E#8, 0x8B#8] (.exg (.r8 .a) (.r8 .dp)) && decodesAs [0x1F#8, 0x05#8] (.tfr (.r16 .d) (.r16 .pc)) &&
    decodesAs [0x86#8, 0x5A#8] (.lda (.imm 0x5A#8)) && decodesAs [0x96#8, 0x20#8] (.lda (.mem (.dir 0x20#8))) &&
    decodesAs [0xA6#8, 0xAD#8, 0x01#8, 0x00#8] (.lda (.mem (.idx (.pcr16 0x0100#16 false)))) &&
    decodesAs [0xB6#8, 0x12#8, 0x34#8] (.lda (.mem (.ext 0x1234#16))) &&
    decodesAs [0xC6#8, 0x5A#8] (.ldb (.imm 0x5A#8)) && decodesAs [0xD6#8, 0x20#8] (.ldb (.mem (.dir 0x20#8))) &&
    decodesAs [0xE6#8, 0xFB#8] (.ldb (.mem (.idx (.accD .s true)))) &&
    decodesAs [0xF6#8, 0x12#8, 0x34#8] (.ldb (.mem (.ext 0x1234#16))) &&
    decodesAs [0xCC#8, 0xAB#8, 0xCD#8] (.ldd (.imm 0xABCD#16)) &&
    decodesAs [0xDC#8, 0x20#8] (.ldd (.mem (.dir 0x20#8))) &&
    decodesAs [0xEC#8, 0xB3#8] (.ldd (.mem (.idx (.dec2 .y true)))) &&
    decodesAs [0xFC#8, 0x12#8, 0x34#8] (.ldd (.mem (.ext 0x1234#16))) &&
    decodesAs [0x8E#8, 0xAB#8, 0xCD#8] (.ldx (.imm 0xABCD#16)) &&
    decodesAs [0x9E#8, 0x20#8] (.ldx (.mem (.dir 0x20#8))) &&
    decodesAs [0xAE#8, 0xF8#8, 0x7F#8] (.ldx (.mem (.idx (.off8 .s 0x7F#8 true)))) &&
    decodesAs [0xBE#8, 0x12#8, 0x34#8] (.ldx (.mem (.ext 0x1234#16))) &&
    decodesAs [0x10#8, 0x8E#8, 0xAB#8, 0xCD#8] (.ldy (.imm 0xABCD#16)) &&
    decodesAs [0x10#8, 0x9E#8, 0x20#8] (.ldy (.mem (.dir 0x20#8))) &&
    decodesAs [0x10#8, 0xAE#8, 0x05#8] (.ldy (.mem (.idx (.off5 .x 0b00101#5)))) &&
    decodesAs [0x10#8, 0xBE#8, 0x12#8, 0x34#8] (.ldy (.mem (.ext 0x1234#16))) &&
    decodesAs [0xCE#8, 0xAB#8, 0xCD#8] (.ldu (.imm 0xABCD#16)) &&
    decodesAs [0xDE#8, 0x20#8] (.ldu (.mem (.dir 0x20#8)))) = true := by decide

/-- Opcodes of the transfer family, from spec/opcode_table.json, operands laid out as 30_encoding.md R75 to R101 say. -/
theorem test_decode_transfer_b :
    (decodesAs [0xEE#8, 0xFC#8, 0xFD#8] (.ldu (.mem (.idx (.pcr8 0xFD#8 true)))) &&
    decodesAs [0xFE#8, 0x12#8, 0x34#8] (.ldu (.mem (.ext 0x1234#16))) &&
    decodesAs [0x10#8, 0xCE#8, 0xAB#8, 0xCD#8] (.lds (.imm 0xABCD#16)) &&
    decodesAs [0x10#8, 0xDE#8, 0x20#8] (.lds (.mem (.dir 0x20#8))) &&
    decodesAs [0x10#8, 0xEE#8, 0x84#8] (.lds (.mem (.idx (.off0 .x false)))) &&
    decodesAs [0x10#8, 0xFE#8, 0x12#8, 0x34#8] (.lds (.mem (.ext 0x1234#16))) &&
    decodesAs [0x97#8, 0x20#8] (.sta (.dir 0x20#8)) &&
    decodesAs [0xA7#8, 0x9D#8, 0x7F#8, 0xFF#8] (.sta (.idx (.pcr16 0x7FFF#16 true))) &&
    decodesAs [0xB7#8, 0x12#8, 0x34#8] (.sta (.ext 0x1234#16)) && decodesAs [0xD7#8, 0x20#8] (.stb (.dir 0x20#8)) &&
    decodesAs [0xE7#8, 0x80#8] (.stb (.idx (.inc1 .x))) &&
    decodesAs [0xF7#8, 0x12#8, 0x34#8] (.stb (.ext 0x1234#16)) && decodesAs [0xDD#8, 0x20#8] (.std (.dir 0x20#8)) &&
    decodesAs [0xED#8, 0x8C#8, 0x10#8] (.std (.idx (.pcr8 0x10#8 false))) &&
    decodesAs [0xFD#8, 0x12#8, 0x34#8] (.std (.ext 0x1234#16)) && decodesAs [0x9F#8, 0x20#8] (.stx (.dir 0x20#8)) &&
    decodesAs [0xAF#8, 0x89#8, 0x12#8, 0x34#8] (.stx (.idx (.off16 .x 0x1234#16 false))) &&
    decodesAs [0xBF#8, 0x12#8, 0x34#8] (.stx (.ext 0x1234#16)) &&
    decodesAs [0x10#8, 0x9F#8, 0x20#8] (.sty (.dir 0x20#8)) &&
    decodesAs [0x10#8, 0xAF#8, 0x3F#8] (.sty (.idx (.off5 .y 0b11111#5))) &&
    decodesAs [0x10#8, 0xBF#8, 0x12#8, 0x34#8] (.sty (.ext 0x1234#16)) &&
    decodesAs [0xDF#8, 0x20#8] (.stu (.dir 0x20#8)) &&
    decodesAs [0xEF#8, 0xAD#8, 0x01#8, 0x00#8] (.stu (.idx (.pcr16 0x0100#16 false))) &&
    decodesAs [0xFF#8, 0x12#8, 0x34#8] (.stu (.ext 0x1234#16))) = true := by decide

/-- Opcodes of the transfer family, from spec/opcode_table.json, operands laid out as 30_encoding.md R75 to R101 say. -/
theorem test_decode_transfer_c :
    (decodesAs [0x10#8, 0xDF#8, 0x20#8] (.sts (.dir 0x20#8)) &&
    decodesAs [0x10#8, 0xEF#8, 0xB4#8] (.sts (.idx (.off0 .y true))) &&
    decodesAs [0x10#8, 0xFF#8, 0x12#8, 0x34#8] (.sts (.ext 0x1234#16))) = true := by decide

/-- Opcodes of the stack family, from spec/opcode_table.json, operands laid out as 30_encoding.md R75 to R101 say. -/
theorem test_decode_stack :
    (decodesAs [0x34#8, 0x2E#8] (.pshs 0x2E#8) && decodesAs [0x36#8, 0x2E#8] (.pshu 0x2E#8) &&
    decodesAs [0x35#8, 0x2E#8] (.puls 0x2E#8) && decodesAs [0x37#8, 0x2E#8] (.pulu 0x2E#8)) = true := by decide

/-- Opcodes of the arithmetic family, from spec/opcode_table.json, operands laid out as 30_encoding.md R75 to R101 say. -/
theorem test_decode_arithmetic_a :
    (decodesAs [0x8B#8, 0x5A#8] (.adda (.imm 0x5A#8)) && decodesAs [0x9B#8, 0x20#8] (.adda (.mem (.dir 0x20#8))) &&
    decodesAs [0xAB#8, 0x84#8] (.adda (.mem (.idx (.off0 .x false)))) &&
    decodesAs [0xBB#8, 0x12#8, 0x34#8] (.adda (.mem (.ext 0x1234#16))) &&
    decodesAs [0xCB#8, 0x5A#8] (.addb (.imm 0x5A#8)) && decodesAs [0xDB#8, 0x20#8] (.addb (.mem (.dir 0x20#8))) &&
    decodesAs [0xEB#8, 0x83#8] (.addb (.mem (.idx (.dec2 .x false)))) &&
    decodesAs [0xFB#8, 0x12#8, 0x34#8] (.addb (.mem (.ext 0x1234#16))) &&
    decodesAs [0xC3#8, 0xAB#8, 0xCD#8] (.addd (.imm 0xABCD#16)) &&
    decodesAs [0xD3#8, 0x20#8] (.addd (.mem (.dir 0x20#8))) &&
    decodesAs [0xE3#8, 0x85#8] (.addd (.mem (.idx (.accB .x false)))) &&
    decodesAs [0xF3#8, 0x12#8, 0x34#8] (.addd (.mem (.ext 0x1234#16))) &&
    decodesAs [0x89#8, 0x5A#8] (.adca (.imm 0x5A#8)) && decodesAs [0x99#8, 0x20#8] (.adca (.mem (.dir 0x20#8))) &&
    decodesAs [0xA9#8, 0x05#8] (.adca (.mem (.idx (.off5 .x 0b00101#5)))) &&
    decodesAs [0xB9#8, 0x12#8, 0x34#8] (.adca (.mem (.ext 0x1234#16))) &&
    decodesAs [0xC9#8, 0x5A#8] (.adcb (.imm 0x5A#8)) && decodesAs [0xD9#8, 0x20#8] (.adcb (.mem (.dir 0x20#8))) &&
    decodesAs [0xE9#8, 0xD1#8] (.adcb (.mem (.idx (.inc2 .u true)))) &&
    decodesAs [0xF9#8, 0x12#8, 0x34#8] (.adcb (.mem (.ext 0x1234#16))) && decodesAs [0x3A#8] .abx &&
    decodesAs [0x19#8] .daa && decodesAs [0x3D#8] .mul && decodesAs [0x80#8, 0x5A#8] (.suba (.imm 0x5A#8))) = true := by decide

/-- Opcodes of the arithmetic family, from spec/opcode_table.json, operands laid out as 30_encoding.md R75 to R101 say. -/
theorem test_decode_arithmetic_b :
    (decodesAs [0x90#8, 0x20#8] (.suba (.mem (.dir 0x20#8))) &&
    decodesAs [0xA0#8, 0xD1#8] (.suba (.mem (.idx (.inc2 .u true)))) &&
    decodesAs [0xB0#8, 0x12#8, 0x34#8] (.suba (.mem (.ext 0x1234#16))) &&
    decodesAs [0xC0#8, 0x5A#8] (.subb (.imm 0x5A#8)) && decodesAs [0xD0#8, 0x20#8] (.subb (.mem (.dir 0x20#8))) &&
    decodesAs [0xE0#8, 0xB9#8, 0xF0#8, 0x00#8] (.subb (.mem (.idx (.off16 .y 0xF000#16 true)))) &&
    decodesAs [0xF0#8, 0x12#8, 0x34#8] (.subb (.mem (.ext 0x1234#16))) &&
    decodesAs [0x83#8, 0xAB#8, 0xCD#8] (.subd (.imm 0xABCD#16)) &&
    decodesAs [0x93#8, 0x20#8] (.subd (.mem (.dir 0x20#8))) &&
    decodesAs [0xA3#8, 0xB3#8] (.subd (.mem (.idx (.dec2 .y true)))) &&
    decodesAs [0xB3#8, 0x12#8, 0x34#8] (.subd (.mem (.ext 0x1234#16))) &&
    decodesAs [0x82#8, 0x5A#8] (.sbca (.imm 0x5A#8)) && decodesAs [0x92#8, 0x20#8] (.sbca (.mem (.dir 0x20#8))) &&
    decodesAs [0xA2#8, 0x83#8] (.sbca (.mem (.idx (.dec2 .x false)))) &&
    decodesAs [0xB2#8, 0x12#8, 0x34#8] (.sbca (.mem (.ext 0x1234#16))) &&
    decodesAs [0xC2#8, 0x5A#8] (.sbcb (.imm 0x5A#8)) && decodesAs [0xD2#8, 0x20#8] (.sbcb (.mem (.dir 0x20#8))) &&
    decodesAs [0xE2#8, 0xF6#8] (.sbcb (.mem (.idx (.accA .s true)))) &&
    decodesAs [0xF2#8, 0x12#8, 0x34#8] (.sbcb (.mem (.ext 0x1234#16))) && decodesAs [0x1D#8] .sex) = true := by decide

/-- Opcodes of the logic family, from spec/opcode_table.json, operands laid out as 30_encoding.md R75 to R101 say. -/
theorem test_decode_logic_a :
    (decodesAs [0x84#8, 0x5A#8] (.anda (.imm 0x5A#8)) && decodesAs [0x94#8, 0x20#8] (.anda (.mem (.dir 0x20#8))) &&
    decodesAs [0xA4#8, 0x8C#8, 0x10#8] (.anda (.mem (.idx (.pcr8 0x10#8 false)))) &&
    decodesAs [0xB4#8, 0x12#8, 0x34#8] (.anda (.mem (.ext 0x1234#16))) &&
    decodesAs [0xC4#8, 0x5A#8] (.andb (.imm 0x5A#8)) && decodesAs [0xD4#8, 0x20#8] (.andb (.mem (.dir 0x20#8))) &&
    decodesAs [0xE4#8, 0xB5#8] (.andb (.mem (.idx (.accB .y true)))) &&
    decodesAs [0xF4#8, 0x12#8, 0x34#8] (.andb (.mem (.ext 0x1234#16))) &&
    decodesAs [0x88#8, 0x5A#8] (.eora (.imm 0x5A#8)) && decodesAs [0x98#8, 0x20#8] (.eora (.mem (.dir 0x20#8))) &&
    decodesAs [0xA8#8, 0x9F#8, 0x20#8, 0x00#8] (.eora (.mem (.idx (.extInd 0x2000#16)))) &&
    decodesAs [0xB8#8, 0x12#8, 0x34#8] (.eora (.mem (.ext 0x1234#16))) &&
    decodesAs [0xC8#8, 0x5A#8] (.eorb (.imm 0x5A#8)) && decodesAs [0xD8#8, 0x20#8] (.eorb (.mem (.dir 0x20#8))) &&
    decodesAs [0xE8#8, 0xA1#8] (.eorb (.mem (.idx (.inc2 .y false)))) &&
    decodesAs [0xF8#8, 0x12#8, 0x34#8] (.eorb (.mem (.ext 0x1234#16))) &&
    decodesAs [0x8A#8, 0x5A#8] (.ora (.imm 0x5A#8)) && decodesAs [0x9A#8, 0x20#8] (.ora (.mem (.dir 0x20#8))) &&
    decodesAs [0xAA#8, 0x3F#8] (.ora (.mem (.idx (.off5 .y 0b11111#5)))) &&
    decodesAs [0xBA#8, 0x12#8, 0x34#8] (.ora (.mem (.ext 0x1234#16))) &&
    decodesAs [0xCA#8, 0x5A#8] (.orb (.imm 0x5A#8)) && decodesAs [0xDA#8, 0x20#8] (.orb (.mem (.dir 0x20#8))) &&
    decodesAs [0xEA#8, 0xE2#8] (.orb (.mem (.idx (.dec1 .s)))) &&
    decodesAs [0xFA#8, 0x12#8, 0x34#8] (.orb (.mem (.ext 0x1234#16)))) = true := by decide

/-- Opcodes of the logic family, from spec/opcode_table.json, operands laid out as 30_encoding.md R75 to R101 say. -/
theorem test_decode_logic_b :
    (decodesAs [0x1C#8, 0x5A#8] (.andcc 0x5A#8) && decodesAs [0x1A#8, 0x5A#8] (.orcc 0x5A#8)) = true := by decide

/-- Opcodes of the shift family, from spec/opcode_table.json, operands laid out as 30_encoding.md R75 to R101 say. -/
theorem test_decode_shift_a :
    (decodesAs [0x47#8] .asra && decodesAs [0x57#8] .asrb && decodesAs [0x07#8, 0x20#8] (.asr (.dir 0x20#8)) &&
    decodesAs [0x67#8, 0xC6#8] (.asr (.idx (.accA .u false))) &&
    decodesAs [0x77#8, 0x12#8, 0x34#8] (.asr (.ext 0x1234#16)) && decodesAs [0x48#8] .asla &&
    decodesAs [0x58#8] .aslb && decodesAs [0x08#8, 0x20#8] (.asl (.dir 0x20#8)) &&
    decodesAs [0x68#8, 0xF6#8] (.asl (.idx (.accA .s true))) &&
    decodesAs [0x78#8, 0x12#8, 0x34#8] (.asl (.ext 0x1234#16)) && decodesAs [0x44#8] .lsra &&
    decodesAs [0x54#8] .lsrb && decodesAs [0x04#8, 0x20#8] (.lsr (.dir 0x20#8)) &&
    decodesAs [0x64#8, 0x89#8, 0x12#8, 0x34#8] (.lsr (.idx (.off16 .x 0x1234#16 false))) &&
    decodesAs [0x74#8, 0x12#8, 0x34#8] (.lsr (.ext 0x1234#16)) && decodesAs [0x49#8] .rola &&
    decodesAs [0x59#8] .rolb && decodesAs [0x09#8, 0x20#8] (.rol (.dir 0x20#8)) &&
    decodesAs [0x69#8, 0x85#8] (.rol (.idx (.accB .x false))) &&
    decodesAs [0x79#8, 0x12#8, 0x34#8] (.rol (.ext 0x1234#16)) && decodesAs [0x46#8] .rora &&
    decodesAs [0x56#8] .rorb && decodesAs [0x06#8, 0x20#8] (.ror (.dir 0x20#8)) &&
    decodesAs [0x66#8, 0xB9#8, 0xF0#8, 0x00#8] (.ror (.idx (.off16 .y 0xF000#16 true)))) = true := by decide

/-- Opcodes of the shift family, from spec/opcode_table.json, operands laid out as 30_encoding.md R75 to R101 say. -/
theorem test_decode_shift_b :
    (decodesAs [0x76#8, 0x12#8, 0x34#8] (.ror (.ext 0x1234#16))) = true := by decide

/-- Opcodes of the unary family, from spec/opcode_table.json, operands laid out as 30_encoding.md R75 to R101 say. -/
theorem test_decode_unary_a :
    (decodesAs [0x4F#8] .clra && decodesAs [0x5F#8] .clrb && decodesAs [0x0F#8, 0x20#8] (.clr (.dir 0x20#8)) &&
    decodesAs [0x6F#8, 0xA1#8] (.clr (.idx (.inc2 .y false))) &&
    decodesAs [0x7F#8, 0x12#8, 0x34#8] (.clr (.ext 0x1234#16)) && decodesAs [0x4A#8] .deca &&
    decodesAs [0x5A#8] .decb && decodesAs [0x0A#8, 0x20#8] (.dec (.dir 0x20#8)) &&
    decodesAs [0x6A#8, 0xB5#8] (.dec (.idx (.accB .y true))) &&
    decodesAs [0x7A#8, 0x12#8, 0x34#8] (.dec (.ext 0x1234#16)) && decodesAs [0x4C#8] .inca &&
    decodesAs [0x5C#8] .incb && decodesAs [0x0C#8, 0x20#8] (.inc (.dir 0x20#8)) &&
    decodesAs [0x6C#8, 0xCB#8] (.inc (.idx (.accD .u false))) &&
    decodesAs [0x7C#8, 0x12#8, 0x34#8] (.inc (.ext 0x1234#16)) && decodesAs [0x43#8] .coma &&
    decodesAs [0x53#8] .comb && decodesAs [0x03#8, 0x20#8] (.com (.dir 0x20#8)) &&
    decodesAs [0x63#8, 0xF8#8, 0x7F#8] (.com (.idx (.off8 .s 0x7F#8 true))) &&
    decodesAs [0x73#8, 0x12#8, 0x34#8] (.com (.ext 0x1234#16)) && decodesAs [0x40#8] .nega &&
    decodesAs [0x50#8] .negb && decodesAs [0x00#8, 0x20#8] (.neg (.dir 0x20#8)) &&
    decodesAs [0x60#8, 0xC8#8, 0x80#8] (.neg (.idx (.off8 .u 0x80#8 false)))) = true := by decide

/-- Opcodes of the unary family, from spec/opcode_table.json, operands laid out as 30_encoding.md R75 to R101 say. -/
theorem test_decode_unary_b :
    (decodesAs [0x70#8, 0x12#8, 0x34#8] (.neg (.ext 0x1234#16)) && decodesAs [0x12#8] .nop) = true := by decide

/-- Opcodes of the test family, from spec/opcode_table.json, operands laid out as 30_encoding.md R75 to R101 say. -/
theorem test_decode_test_a :
    (decodesAs [0x85#8, 0x5A#8] (.bita (.imm 0x5A#8)) && decodesAs [0x95#8, 0x20#8] (.bita (.mem (.dir 0x20#8))) &&
    decodesAs [0xA5#8, 0xFC#8, 0xFD#8] (.bita (.mem (.idx (.pcr8 0xFD#8 true)))) &&
    decodesAs [0xB5#8, 0x12#8, 0x34#8] (.bita (.mem (.ext 0x1234#16))) &&
    decodesAs [0xC5#8, 0x5A#8] (.bitb (.imm 0x5A#8)) && decodesAs [0xD5#8, 0x20#8] (.bitb (.mem (.dir 0x20#8))) &&
    decodesAs [0xE5#8, 0xCB#8] (.bitb (.mem (.idx (.accD .u false)))) &&
    decodesAs [0xF5#8, 0x12#8, 0x34#8] (.bitb (.mem (.ext 0x1234#16))) &&
    decodesAs [0x81#8, 0x5A#8] (.cmpa (.imm 0x5A#8)) && decodesAs [0x91#8, 0x20#8] (.cmpa (.mem (.dir 0x20#8))) &&
    decodesAs [0xA1#8, 0xE2#8] (.cmpa (.mem (.idx (.dec1 .s)))) &&
    decodesAs [0xB1#8, 0x12#8, 0x34#8] (.cmpa (.mem (.ext 0x1234#16))) &&
    decodesAs [0xC1#8, 0x5A#8] (.cmpb (.imm 0x5A#8)) && decodesAs [0xD1#8, 0x20#8] (.cmpb (.mem (.dir 0x20#8))) &&
    decodesAs [0xE1#8, 0xC6#8] (.cmpb (.mem (.idx (.accA .u false)))) &&
    decodesAs [0xF1#8, 0x12#8, 0x34#8] (.cmpb (.mem (.ext 0x1234#16))) &&
    decodesAs [0x10#8, 0x83#8, 0xAB#8, 0xCD#8] (.cmpd (.imm 0xABCD#16)) &&
    decodesAs [0x10#8, 0x93#8, 0x20#8] (.cmpd (.mem (.dir 0x20#8))) &&
    decodesAs [0x10#8, 0xA3#8, 0x9D#8, 0x7F#8, 0xFF#8] (.cmpd (.mem (.idx (.pcr16 0x7FFF#16 true)))) &&
    decodesAs [0x10#8, 0xB3#8, 0x12#8, 0x34#8] (.cmpd (.mem (.ext 0x1234#16))) &&
    decodesAs [0x8C#8, 0xAB#8, 0xCD#8] (.cmpx (.imm 0xABCD#16)) &&
    decodesAs [0x9C#8, 0x20#8] (.cmpx (.mem (.dir 0x20#8))) &&
    decodesAs [0xAC#8, 0xB4#8] (.cmpx (.mem (.idx (.off0 .y true)))) &&
    decodesAs [0xBC#8, 0x12#8, 0x34#8] (.cmpx (.mem (.ext 0x1234#16)))) = true := by decide

/-- Opcodes of the test family, from spec/opcode_table.json, operands laid out as 30_encoding.md R75 to R101 say. -/
theorem test_decode_test_b :
    (decodesAs [0x10#8, 0x8C#8, 0xAB#8, 0xCD#8] (.cmpy (.imm 0xABCD#16)) &&
    decodesAs [0x10#8, 0x9C#8, 0x20#8] (.cmpy (.mem (.dir 0x20#8))) &&
    decodesAs [0x10#8, 0xAC#8, 0x9F#8, 0x20#8, 0x00#8] (.cmpy (.mem (.idx (.extInd 0x2000#16)))) &&
    decodesAs [0x10#8, 0xBC#8, 0x12#8, 0x34#8] (.cmpy (.mem (.ext 0x1234#16))) &&
    decodesAs [0x11#8, 0x83#8, 0xAB#8, 0xCD#8] (.cmpu (.imm 0xABCD#16)) &&
    decodesAs [0x11#8, 0x93#8, 0x20#8] (.cmpu (.mem (.dir 0x20#8))) &&
    decodesAs [0x11#8, 0xA3#8, 0xC8#8, 0x80#8] (.cmpu (.mem (.idx (.off8 .u 0x80#8 false)))) &&
    decodesAs [0x11#8, 0xB3#8, 0x12#8, 0x34#8] (.cmpu (.mem (.ext 0x1234#16))) &&
    decodesAs [0x11#8, 0x8C#8, 0xAB#8, 0xCD#8] (.cmps (.imm 0xABCD#16)) &&
    decodesAs [0x11#8, 0x9C#8, 0x20#8] (.cmps (.mem (.dir 0x20#8))) &&
    decodesAs [0x11#8, 0xAC#8, 0xF8#8, 0x7F#8] (.cmps (.mem (.idx (.off8 .s 0x7F#8 true)))) &&
    decodesAs [0x11#8, 0xBC#8, 0x12#8, 0x34#8] (.cmps (.mem (.ext 0x1234#16))) && decodesAs [0x4D#8] .tsta &&
    decodesAs [0x5D#8] .tstb && decodesAs [0x0D#8, 0x20#8] (.tst (.dir 0x20#8)) &&
    decodesAs [0x6D#8, 0xFB#8] (.tst (.idx (.accD .s true))) &&
    decodesAs [0x7D#8, 0x12#8, 0x34#8] (.tst (.ext 0x1234#16))) = true := by decide

/-- Opcodes of the short branch family, from spec/opcode_table.json, operands laid out as 30_encoding.md R75 to R101 say. -/
theorem test_decode_short_branch :
    (decodesAs [0x20#8, 0xFE#8] (.bra 0xFE#8) && decodesAs [0x21#8, 0xFE#8] (.brn 0xFE#8) &&
    decodesAs [0x22#8, 0xFE#8] (.bhi 0xFE#8) && decodesAs [0x23#8, 0xFE#8] (.bls 0xFE#8) &&
    decodesAs [0x24#8, 0xFE#8] (.bcc 0xFE#8) && decodesAs [0x25#8, 0xFE#8] (.bcs 0xFE#8) &&
    decodesAs [0x26#8, 0xFE#8] (.bne 0xFE#8) && decodesAs [0x27#8, 0xFE#8] (.beq 0xFE#8) &&
    decodesAs [0x28#8, 0xFE#8] (.bvc 0xFE#8) && decodesAs [0x29#8, 0xFE#8] (.bvs 0xFE#8) &&
    decodesAs [0x2A#8, 0xFE#8] (.bpl 0xFE#8) && decodesAs [0x2B#8, 0xFE#8] (.bmi 0xFE#8) &&
    decodesAs [0x2C#8, 0xFE#8] (.bge 0xFE#8) && decodesAs [0x2D#8, 0xFE#8] (.blt 0xFE#8) &&
    decodesAs [0x2E#8, 0xFE#8] (.bgt 0xFE#8) && decodesAs [0x2F#8, 0xFE#8] (.ble 0xFE#8)) = true := by decide

/-- Opcodes of the long branch family, from spec/opcode_table.json, operands laid out as 30_encoding.md R75 to R101 say. -/
theorem test_decode_long_branch :
    (decodesAs [0x16#8, 0xFF#8, 0xFC#8] (.lbra 0xFFFC#16) &&
    decodesAs [0x10#8, 0x21#8, 0xFF#8, 0xFC#8] (.lbrn 0xFFFC#16) &&
    decodesAs [0x10#8, 0x22#8, 0xFF#8, 0xFC#8] (.lbhi 0xFFFC#16) &&
    decodesAs [0x10#8, 0x23#8, 0xFF#8, 0xFC#8] (.lbls 0xFFFC#16) &&
    decodesAs [0x10#8, 0x24#8, 0xFF#8, 0xFC#8] (.lbcc 0xFFFC#16) &&
    decodesAs [0x10#8, 0x25#8, 0xFF#8, 0xFC#8] (.lbcs 0xFFFC#16) &&
    decodesAs [0x10#8, 0x26#8, 0xFF#8, 0xFC#8] (.lbne 0xFFFC#16) &&
    decodesAs [0x10#8, 0x27#8, 0xFF#8, 0xFC#8] (.lbeq 0xFFFC#16) &&
    decodesAs [0x10#8, 0x28#8, 0xFF#8, 0xFC#8] (.lbvc 0xFFFC#16) &&
    decodesAs [0x10#8, 0x29#8, 0xFF#8, 0xFC#8] (.lbvs 0xFFFC#16) &&
    decodesAs [0x10#8, 0x2A#8, 0xFF#8, 0xFC#8] (.lbpl 0xFFFC#16) &&
    decodesAs [0x10#8, 0x2B#8, 0xFF#8, 0xFC#8] (.lbmi 0xFFFC#16) &&
    decodesAs [0x10#8, 0x2C#8, 0xFF#8, 0xFC#8] (.lbge 0xFFFC#16) &&
    decodesAs [0x10#8, 0x2D#8, 0xFF#8, 0xFC#8] (.lblt 0xFFFC#16) &&
    decodesAs [0x10#8, 0x2E#8, 0xFF#8, 0xFC#8] (.lbgt 0xFFFC#16) &&
    decodesAs [0x10#8, 0x2F#8, 0xFF#8, 0xFC#8] (.lble 0xFFFC#16)) = true := by decide

/-- Opcodes of the jump family, from spec/opcode_table.json, operands laid out as 30_encoding.md R75 to R101 say. -/
theorem test_decode_jump :
    (decodesAs [0x0E#8, 0x20#8] (.jmp (.dir 0x20#8)) && decodesAs [0x6E#8, 0x80#8] (.jmp (.idx (.inc1 .x))) &&
    decodesAs [0x7E#8, 0x12#8, 0x34#8] (.jmp (.ext 0x1234#16)) && decodesAs [0x9D#8, 0x20#8] (.jsr (.dir 0x20#8)) &&
    decodesAs [0xAD#8, 0xC8#8, 0x80#8] (.jsr (.idx (.off8 .u 0x80#8 false))) &&
    decodesAs [0xBD#8, 0x12#8, 0x34#8] (.jsr (.ext 0x1234#16)) && decodesAs [0x8D#8, 0xFE#8] (.bsr 0xFE#8) &&
    decodesAs [0x17#8, 0xFF#8, 0xFC#8] (.lbsr 0xFFFC#16) && decodesAs [0x39#8] .rts &&
    decodesAs [0x30#8, 0x05#8] (.leax (.off5 .x 0b00101#5)) &&
    decodesAs [0x31#8, 0x3F#8] (.leay (.off5 .y 0b11111#5)) && decodesAs [0x32#8, 0x84#8] (.leas (.off0 .x false)) &&
    decodesAs [0x33#8, 0xB4#8] (.leau (.off0 .y true))) = true := by decide

/-- Opcodes of the interrupt family, from spec/opcode_table.json, operands laid out as 30_encoding.md R75 to R101 say. -/
theorem test_decode_interrupt :
    (decodesAs [0x3C#8, 0x5A#8] (.cwai 0x5A#8) && decodesAs [0x13#8] .sync && decodesAs [0x3B#8] .rti &&
    decodesAs [0x3F#8] .swi && decodesAs [0x10#8, 0x3F#8] .swi2 && decodesAs [0x11#8, 0x3F#8] .swi3) = true := by decide

/-- Refused encodings: 30_encoding.md R108, R109 (vectors VM45 to VM50), R102 (VM36 to VM42), R84 (VT9, VT10, VT19, VT20),
and bytes that end too soon. -/
theorem test_decode_refuses :
    (refusedAs [0x01#8] .illegalOpcode && refusedAs [0x87#8, 0x00#8] .illegalOpcode &&
    refusedAs [0xCD#8, 0x00#8, 0x00#8] .illegalOpcode && refusedAs [0x10#8, 0x00#8] .illegalOpcode &&
    refusedAs [0x11#8, 0x8E#8, 0x00#8, 0x00#8] .illegalOpcode &&
    refusedAs [0x10#8, 0x10#8, 0x8E#8, 0x00#8, 0x00#8] .illegalOpcode &&
    refusedAs [0x10#8, 0x11#8, 0x83#8, 0x00#8, 0x00#8] .illegalOpcode &&
    refusedAs [0xA6#8, 0x90#8] .illegalIndexedPostbyte && refusedAs [0xA6#8, 0x92#8] .illegalIndexedPostbyte &&
    refusedAs [0xA6#8, 0x87#8] .illegalIndexedPostbyte && refusedAs [0xA6#8, 0x8F#8, 0x20#8, 0x00#8] .illegalIndexedPostbyte &&
    refusedAs [0xA6#8, 0xBF#8, 0x20#8, 0x00#8] .illegalIndexedPostbyte &&
    refusedAs [0x1E#8, 0x81#8] .illegalRegisterPostbyte && refusedAs [0x1E#8, 0x6B#8] .illegalRegisterPostbyte &&
    refusedAs [0x1F#8, 0x91#8] .illegalRegisterPostbyte && refusedAs [0x1F#8, 0x8F#8] .illegalRegisterPostbyte &&
    refusedAs [0x10#8] .truncated && refusedAs [0xB6#8, 0x12#8] .truncated) = true := by decide

/-- The table's numbering of a word: the first byte lowest (assumption log 18), operand bytes the table gives no bits being
zeros. -/
theorem test_decodeTableWord :
    decodeTableWord 8 0x3D = some .mul ∧ decodeTableWord 8 0x86 = some (.lda (.imm 0x00#8)) ∧
    decodeTableWord 8 0x01 = none := by decide

/-- An instruction placed by `withFetchWord` is the next one executed, from reset as well. -/
theorem test_withFetchWord :
    gives (step ({ start with a := 0x0F#8, b := 0x11#8 }.withFetchWord 8 0x3D)) fun t =>
      t.a == 0x00#8 && t.b == 0xFF#8 && t.pc == 0x1001#16 := by decide
theorem test_withFetchWord_at_reset :
    gives (step (State.reset.withFetchWord 8 0x4C)) fun t => t.a == 0x01#8 && t.pc == 0x0001#16 := by decide

/-! ## One instruction each -/

theorem test_exg_VT7 :
    gives (step ({ start with a := 0x12#8, b := 0x34#8, x := 0xABCD#16 } |>.poke 0x1000#16 [0x1E#8, 0x01#8])) fun t =>
      t.a == 0xAB#8 && t.b == 0xCD#8 && t.x == 0x1234#16 && t.pc == 0x1002#16 && t.cc == 0x00#8 := by decide
theorem test_tfr_VT11 :
    gives (step ({ start with a := 0x12#8, b := 0x34#8, cc := 0x05#8 } |>.poke 0x1000#16 [0x1F#8, 0x01#8])) fun t =>
      t.x == 0x1234#16 && t.pc == 0x1002#16 && t.cc == 0x05#8 := by decide
theorem test_lda_VT22 :
    gives (step ({ start with a := 0x55#8, cc := 0x0B#8 } |>.poke 0x1000#16 [0x86#8, 0x00#8])) fun t =>
      t.a == 0x00#8 && t.pc == 0x1002#16 && t.cc == 0x05#8 := by decide
theorem test_ldb_VT24 :
    gives (step (start |>.poke 0x1000#16 [0xC6#8, 0x80#8])) fun t =>
      t.b == 0x80#8 && t.pc == 0x1002#16 && t.cc == 0x08#8 := by decide
theorem test_ldd_VT26 :
    gives (step ({ start with a := 0x01#8, b := 0x01#8, cc := 0x03#8 }
        |>.poke 0x1000#16 [0xCC#8, 0x00#8, 0x00#8])) fun t =>
      t.a == 0x00#8 && t.b == 0x00#8 && t.pc == 0x1003#16 && t.cc == 0x05#8 := by decide
theorem test_ldx_VT27 :
    gives (step ({ start with x := 0x1234#16 } |>.poke 0x1000#16 [0x8E#8, 0x00#8, 0x00#8])) fun t =>
      t.x == 0x0000#16 && t.pc == 0x1003#16 && t.cc == 0x04#8 := by decide
theorem test_ldy_VT28 :
    gives (step (start |>.poke 0x1000#16 [0x10#8, 0x8E#8, 0x80#8, 0x00#8])) fun t =>
      t.y == 0x8000#16 && t.pc == 0x1004#16 && t.cc == 0x08#8 := by decide
theorem test_ldu_VT29 :
    gives (step (start |>.poke 0x1000#16 [0xDE#8, 0x20#8] |>.poke 0x0020#16 [0xC0#8])) fun t =>
      t.u == 0xC000#16 && t.pc == 0x1002#16 && t.cc == 0x08#8 := by decide
theorem test_lds_VT30 :
    gives (step ({ start with s := 0x0000#16 } |>.poke 0x1000#16 [0x10#8, 0xCE#8, 0x80#8, 0x00#8])) fun t =>
      t.s == 0x8000#16 && t.pc == 0x1004#16 && t.cc == 0x08#8 && t.nmiArmed := by decide
theorem test_sta_VT33 :
    gives (step ({ start with a := 0x80#8, cc := 0x07#8 } |>.poke 0x1000#16 [0xB7#8, 0x20#8, 0x00#8])) fun t =>
      t.pc == 0x1003#16 && t.cc == 0x09#8 && t.holds 0x2000#16 [0x80#8] := by decide
theorem test_stb_VT34 :
    gives (step ({ start with x := 0x3000#16, cc := 0x08#8 } |>.poke 0x1000#16 [0xE7#8, 0x80#8]
        |>.poke 0x3000#16 [0xFF#8])) fun t =>
      t.x == 0x3001#16 && t.pc == 0x1002#16 && t.cc == 0x04#8 && t.holds 0x3000#16 [0x00#8] := by decide
theorem test_std_VM7 :
    gives (step ({ start with a := 0xAB#8, b := 0xCD#8 } |>.poke 0x1000#16 [0xFD#8, 0xFF#8, 0xFF#8])) fun t =>
      t.pc == 0x1003#16 && t.cc == 0x08#8 && t.holds 0x0000#16 [0xCD#8] && t.holds 0xFFFF#16 [0xAB#8] := by decide
theorem test_stx_VT36 :
    gives (step ({ start with x := 0xABCD#16, dp := 0x20#8 } |>.poke 0x1000#16 [0x9F#8, 0x10#8])) fun t =>
      t.pc == 0x1002#16 && t.cc == 0x08#8 && t.holds 0x2010#16 [0xAB#8, 0xCD#8] := by decide
theorem test_sty_VT37 :
    gives (step ({ start with x := 0x4000#16 } |>.poke 0x1000#16 [0x10#8, 0xAF#8, 0x84#8]
        |>.poke 0x4000#16 [0xEE#8, 0xEE#8])) fun t =>
      t.pc == 0x1003#16 && t.cc == 0x04#8 && t.holds 0x4000#16 [0x00#8, 0x00#8] := by decide
theorem test_stu_VT38 :
    gives (step ({ start with u := 0xC000#16 } |>.poke 0x1000#16 [0xFF#8, 0x20#8, 0x02#8])) fun t =>
      t.pc == 0x1003#16 && t.cc == 0x08#8 && t.holds 0x2002#16 [0xC0#8] := by decide
theorem test_sts_VT39 :
    gives (step ({ start with s := 0x7FFE#16 } |>.poke 0x1000#16 [0x10#8, 0xFF#8, 0x20#8, 0x04#8])) fun t =>
      t.pc == 0x1004#16 && t.cc == 0x00#8 && t.holds 0x2004#16 [0x7F#8, 0xFE#8] := by decide
theorem test_pshs_VS2 :
    gives (step ({ start with a := 0x12#8 } |>.poke 0x1000#16 [0x34#8, 0x02#8])) fun t =>
      t.s == 0x7FFF#16 && t.pc == 0x1002#16 && t.cc == 0x00#8 && t.holds 0x7FFF#16 [0x12#8] := by decide
theorem test_pshu_VS9 :
    gives (step ({ start with u := 0xC000#16 } |>.poke 0x1000#16 [0x36#8, 0x40#8])) fun t =>
      t.u == 0xBFFE#16 && t.pc == 0x1002#16 && t.cc == 0x00#8 && t.holds 0xBFFE#16 [0x80#8] := by decide
theorem test_puls_VS11 :
    gives (step ({ start with s := 0x7FF4#16 } |>.poke 0x1000#16 [0x35#8, 0xFF#8]
        |>.poke 0x7FF4#16 [0x50#8, 0x12#8, 0x34#8] |>.poke 0x7FF8#16 [0x11#8, 0x11#8, 0x22#8, 0x22#8, 0xC0#8]
        |>.poke 0x7FFE#16 [0x10#8, 0x02#8])) fun t =>
      t.a == 0x12#8 && t.b == 0x34#8 && t.x == 0x1111#16 && t.y == 0x2222#16 && t.u == 0xC000#16 &&
        t.s == 0x8000#16 && t.pc == 0x1002#16 && t.cc == 0x50#8 := by decide
theorem test_pulu_VS17 :
    gives (step ({ start with u := 0xBFFE#16, s := 0x0000#16 } |>.poke 0x1000#16 [0x37#8, 0x40#8]
        |>.poke 0xBFFE#16 [0x80#8])) fun t =>
      t.u == 0xC000#16 && t.s == 0x8000#16 && t.pc == 0x1002#16 && t.cc == 0x00#8 && t.nmiArmed := by decide
theorem test_adda_VA1 :
    gives (step ({ start with a := 0x7F#8 } |>.poke 0x1000#16 [0x8B#8, 0x01#8])) fun t =>
      t.a == 0x80#8 && t.pc == 0x1002#16 && t.cc == 0x2A#8 := by decide
theorem test_addb_VA7 :
    gives (step ({ start with b := 0x01#8 } |>.poke 0x1000#16 [0xCB#8, 0xFF#8])) fun t =>
      t.b == 0x00#8 && t.pc == 0x1002#16 && t.cc == 0x25#8 := by decide
theorem test_addd_VA9 :
    gives (step ({ start with a := 0xFF#8, b := 0xFF#8 } |>.poke 0x1000#16 [0xC3#8, 0x00#8, 0x01#8])) fun t =>
      t.a == 0x00#8 && t.b == 0x00#8 && t.pc == 0x1003#16 && t.cc == 0x05#8 := by decide
theorem test_adca_VA14 :
    gives (step ({ start with a := 0x7F#8, cc := 0x01#8 } |>.poke 0x1000#16 [0x89#8, 0x00#8])) fun t =>
      t.a == 0x80#8 && t.pc == 0x1002#16 && t.cc == 0x2A#8 := by decide
theorem test_adcb_VA16 :
    gives (step ({ start with b := 0x0F#8, cc := 0x01#8 } |>.poke 0x1000#16 [0xC9#8, 0x00#8])) fun t =>
      t.b == 0x10#8 && t.pc == 0x1002#16 && t.cc == 0x20#8 := by decide
theorem test_abx_VA18 :
    gives (step ({ start with b := 0xFF#8, x := 0x1000#16, cc := 0x0F#8 } |>.poke 0x1000#16 [0x3A#8])) fun t =>
      t.x == 0x10FF#16 && t.pc == 0x1001#16 && t.cc == 0x0F#8 := by decide
theorem test_daa_VA22 :
    gives (step ({ start with a := 0x9A#8 } |>.poke 0x1000#16 [0x19#8])) fun t =>
      t.a == 0x00#8 && t.pc == 0x1001#16 && t.cc == 0x05#8 := by decide
theorem test_mul_VA28 :
    gives (step ({ start with a := 0xFF#8, b := 0xFF#8, cc := 0x0A#8 } |>.poke 0x1000#16 [0x3D#8])) fun t =>
      t.a == 0xFE#8 && t.b == 0x01#8 && t.pc == 0x1001#16 && t.cc == 0x0A#8 := by decide
theorem test_suba_VA34 :
    gives (step ({ start with a := 0x7F#8 } |>.poke 0x1000#16 [0x80#8, 0x80#8])) fun t =>
      t.a == 0xFF#8 && t.pc == 0x1002#16 && t.cc == 0x0B#8 := by decide
theorem test_subb_VA35 :
    gives (step ({ start with b := 0x80#8 } |>.poke 0x1000#16 [0xC0#8, 0x01#8])) fun t =>
      t.b == 0x7F#8 && t.pc == 0x1002#16 && t.cc == 0x02#8 := by decide
theorem test_subd_VA36 :
    gives (step (start |>.poke 0x1000#16 [0x83#8, 0x00#8, 0x01#8])) fun t =>
      t.a == 0xFF#8 && t.b == 0xFF#8 && t.pc == 0x1003#16 && t.cc == 0x09#8 := by decide
theorem test_sbca_VA39 :
    gives (step ({ start with cc := 0x01#8 } |>.poke 0x1000#16 [0x82#8, 0x00#8])) fun t =>
      t.a == 0xFF#8 && t.pc == 0x1002#16 && t.cc == 0x09#8 := by decide
theorem test_sbcb_VA43 :
    gives (step ({ start with b := 0x80#8, cc := 0x01#8 } |>.poke 0x1000#16 [0xC2#8, 0x00#8])) fun t =>
      t.b == 0x7F#8 && t.pc == 0x1002#16 && t.cc == 0x02#8 := by decide
theorem test_sex_VA44 :
    gives (step ({ start with a := 0x12#8, b := 0x80#8 } |>.poke 0x1000#16 [0x1D#8])) fun t =>
      t.a == 0xFF#8 && t.pc == 0x1001#16 && t.cc == 0x08#8 := by decide
theorem test_anda_VL2 :
    gives (step ({ start with a := 0xA5#8, cc := 0x03#8 } |>.poke 0x1000#16 [0x84#8, 0xF0#8])) fun t =>
      t.a == 0xA0#8 && t.pc == 0x1002#16 && t.cc == 0x09#8 := by decide
theorem test_andb_VL3 :
    gives (step ({ start with b := 0x7F#8 } |>.poke 0x1000#16 [0xC4#8, 0x80#8])) fun t =>
      t.b == 0x00#8 && t.pc == 0x1002#16 && t.cc == 0x04#8 := by decide
theorem test_eora_VL5 :
    gives (step ({ start with a := 0x3C#8 } |>.poke 0x1000#16 [0xB8#8, 0x20#8, 0x00#8]
        |>.poke 0x2000#16 [0x3C#8])) fun t =>
      t.a == 0x00#8 && t.pc == 0x1003#16 && t.cc == 0x04#8 := by decide
theorem test_eorb_VL6 :
    gives (step ({ start with b := 0x0F#8 } |>.poke 0x1000#16 [0xC8#8, 0x0F#8])) fun t =>
      t.b == 0x00#8 && t.pc == 0x1002#16 && t.cc == 0x04#8 := by decide
theorem test_ora_VL7 :
    gives (step ({ start with a := 0x01#8 } |>.poke 0x1000#16 [0x8A#8, 0x80#8])) fun t =>
      t.a == 0x81#8 && t.pc == 0x1002#16 && t.cc == 0x08#8 := by decide
theorem test_orb_VL9 :
    gives (step ({ start with b := 0x0F#8, y := 0x4000#16 } |>.poke 0x1000#16 [0xEA#8, 0xA4#8]
        |>.poke 0x4000#16 [0xF0#8])) fun t =>
      t.b == 0xFF#8 && t.pc == 0x1002#16 && t.cc == 0x08#8 := by decide
theorem test_andcc_VL11 :
    gives (step ({ start with cc := 0xFF#8 } |>.poke 0x1000#16 [0x1C#8, 0x00#8])) fun t =>
      t.pc == 0x1002#16 && t.cc == 0x00#8 := by decide
theorem test_orcc_VL14 :
    gives (step ({ start with cc := 0x04#8 } |>.poke 0x1000#16 [0x1A#8, 0x50#8])) fun t =>
      t.pc == 0x1002#16 && t.cc == 0x54#8 := by decide
theorem test_asra_VR1 :
    gives (step ({ start with a := 0x81#8 } |>.poke 0x1000#16 [0x47#8])) fun t =>
      t.a == 0xC0#8 && t.pc == 0x1001#16 && t.cc == 0x09#8 := by decide
theorem test_asrb_VR4 :
    gives (step ({ start with b := 0x02#8 } |>.poke 0x1000#16 [0x57#8])) fun t =>
      t.b == 0x01#8 && t.pc == 0x1001#16 && t.cc == 0x00#8 := by decide
theorem test_asr_VR5 :
    gives (step (start |>.poke 0x1000#16 [0x77#8, 0x20#8, 0x00#8] |>.poke 0x2000#16 [0xFE#8])) fun t =>
      t.pc == 0x1003#16 && t.cc == 0x08#8 && t.holds 0x2000#16 [0xFF#8] := by decide
theorem test_asla_VR6 :
    gives (step ({ start with a := 0x55#8 } |>.poke 0x1000#16 [0x48#8])) fun t =>
      t.a == 0xAA#8 && t.pc == 0x1001#16 && t.cc == 0x0A#8 := by decide
theorem test_aslb_VR9 :
    gives (step ({ start with b := 0x80#8 } |>.poke 0x1000#16 [0x58#8])) fun t =>
      t.b == 0x00#8 && t.pc == 0x1001#16 && t.cc == 0x07#8 := by decide
theorem test_asl_VR10 :
    gives (step ({ start with x := 0x3000#16 } |>.poke 0x1000#16 [0x68#8, 0x84#8]
        |>.poke 0x3000#16 [0x01#8])) fun t =>
      t.pc == 0x1002#16 && t.cc == 0x00#8 && t.holds 0x3000#16 [0x02#8] := by decide
theorem test_lsra_VR12 :
    gives (step ({ start with a := 0xFF#8, cc := 0x0A#8 } |>.poke 0x1000#16 [0x44#8])) fun t =>
      t.a == 0x7F#8 && t.pc == 0x1001#16 && t.cc == 0x03#8 := by decide
theorem test_lsrb_VR13 :
    gives (step ({ start with b := 0x01#8 } |>.poke 0x1000#16 [0x54#8])) fun t =>
      t.b == 0x00#8 && t.pc == 0x1001#16 && t.cc == 0x05#8 := by decide
theorem test_lsr_VR14 :
    gives (step (start |>.poke 0x1000#16 [0x04#8, 0x20#8] |>.poke 0x0020#16 [0x80#8])) fun t =>
      t.pc == 0x1002#16 && t.cc == 0x00#8 && t.holds 0x0020#16 [0x40#8] := by decide
theorem test_rola_VR15 :
    gives (step ({ start with a := 0x40#8, cc := 0x01#8 } |>.poke 0x1000#16 [0x49#8])) fun t =>
      t.a == 0x81#8 && t.pc == 0x1001#16 && t.cc == 0x0A#8 := by decide
theorem test_rolb_VR17 :
    gives (step ({ start with b := 0x80#8 } |>.poke 0x1000#16 [0x59#8])) fun t =>
      t.b == 0x00#8 && t.pc == 0x1001#16 && t.cc == 0x07#8 := by decide
theorem test_rol_VR18 :
    gives (step ({ start with cc := 0x01#8 } |>.poke 0x1000#16 [0x79#8, 0x20#8, 0x00#8]
        |>.poke 0x2000#16 [0x01#8])) fun t =>
      t.pc == 0x1003#16 && t.cc == 0x00#8 && t.holds 0x2000#16 [0x03#8] := by decide
theorem test_rora_VR20 :
    gives (step ({ start with a := 0x01#8 } |>.poke 0x1000#16 [0x46#8])) fun t =>
      t.a == 0x00#8 && t.pc == 0x1001#16 && t.cc == 0x05#8 := by decide
theorem test_rorb_VR22 :
    gives (step ({ start with b := 0x02#8 } |>.poke 0x1000#16 [0x56#8])) fun t =>
      t.b == 0x01#8 && t.pc == 0x1001#16 && t.cc == 0x00#8 := by decide
theorem test_ror_VR23 :
    gives (step ({ start with y := 0x4000#16, cc := 0x01#8 } |>.poke 0x1000#16 [0x66#8, 0xA4#8])) fun t =>
      t.pc == 0x1002#16 && t.cc == 0x08#8 && t.holds 0x4000#16 [0x80#8] := by decide
theorem test_clra_VI1 :
    gives (step ({ start with a := 0x7B#8, cc := 0x0B#8 } |>.poke 0x1000#16 [0x4F#8])) fun t =>
      t.a == 0x00#8 && t.pc == 0x1001#16 && t.cc == 0x04#8 := by decide
theorem test_clrb_VI3 :
    gives (step ({ start with b := 0xFF#8 } |>.poke 0x1000#16 [0x5F#8])) fun t =>
      t.b == 0x00#8 && t.pc == 0x1001#16 && t.cc == 0x04#8 := by decide
theorem test_clr_VI4 :
    gives (step (start |>.poke 0x1000#16 [0x7F#8, 0x20#8, 0x00#8] |>.poke 0x2000#16 [0x99#8])) fun t =>
      t.pc == 0x1003#16 && t.cc == 0x04#8 && t.holds 0x2000#16 [0x00#8] := by decide
theorem test_deca_VI5 :
    gives (step ({ start with a := 0x01#8 } |>.poke 0x1000#16 [0x4A#8])) fun t =>
      t.a == 0x00#8 && t.pc == 0x1001#16 && t.cc == 0x04#8 := by decide
theorem test_decb_VI7 :
    gives (step ({ start with b := 0x80#8 } |>.poke 0x1000#16 [0x5A#8])) fun t =>
      t.b == 0x7F#8 && t.pc == 0x1001#16 && t.cc == 0x02#8 := by decide
theorem test_dec_VI8 :
    gives (step (start |>.poke 0x1000#16 [0x7A#8, 0x20#8, 0x00#8])) fun t =>
      t.pc == 0x1003#16 && t.cc == 0x08#8 && t.holds 0x2000#16 [0xFF#8] := by decide
theorem test_inca_VI9 :
    gives (step ({ start with a := 0xFF#8 } |>.poke 0x1000#16 [0x4C#8])) fun t =>
      t.a == 0x00#8 && t.pc == 0x1001#16 && t.cc == 0x04#8 := by decide
theorem test_incb_VI11 :
    gives (step ({ start with b := 0x7F#8 } |>.poke 0x1000#16 [0x5C#8])) fun t =>
      t.b == 0x80#8 && t.pc == 0x1001#16 && t.cc == 0x0A#8 := by decide
theorem test_inc_VI12 :
    gives (step ({ start with x := 0x3000#16 } |>.poke 0x1000#16 [0x6C#8, 0x84#8]
        |>.poke 0x3000#16 [0x41#8])) fun t =>
      t.pc == 0x1002#16 && t.cc == 0x00#8 && t.holds 0x3000#16 [0x42#8] := by decide
theorem test_coma_VI13 :
    gives (step ({ start with a := 0xA5#8 } |>.poke 0x1000#16 [0x43#8])) fun t =>
      t.a == 0x5A#8 && t.pc == 0x1001#16 && t.cc == 0x01#8 := by decide
theorem test_comb_VI14 :
    gives (step ({ start with cc := 0x02#8 } |>.poke 0x1000#16 [0x53#8])) fun t =>
      t.b == 0xFF#8 && t.pc == 0x1001#16 && t.cc == 0x09#8 := by decide
theorem test_com_VI15 :
    gives (step (start |>.poke 0x1000#16 [0x73#8, 0x20#8, 0x00#8] |>.poke 0x2000#16 [0xFF#8])) fun t =>
      t.pc == 0x1003#16 && t.cc == 0x05#8 && t.holds 0x2000#16 [0x00#8] := by decide
theorem test_nega_VI16 :
    gives (step ({ start with a := 0x01#8 } |>.poke 0x1000#16 [0x40#8])) fun t =>
      t.a == 0xFF#8 && t.pc == 0x1001#16 && t.cc == 0x09#8 := by decide
theorem test_negb_VI18 :
    gives (step ({ start with b := 0x80#8 } |>.poke 0x1000#16 [0x50#8])) fun t =>
      t.pc == 0x1001#16 && t.cc == 0x0B#8 := by decide
theorem test_neg_VI19 :
    gives (step ({ start with cc := 0x01#8 } |>.poke 0x1000#16 [0x70#8, 0x20#8, 0x00#8])) fun t =>
      t.pc == 0x1003#16 && t.cc == 0x04#8 := by decide
theorem test_nop_VI20 :
    gives (step ({ start with a := 0x12#8, b := 0x34#8, x := 0x1111#16, cc := 0xFF#8 }
        |>.poke 0x1000#16 [0x12#8])) fun t =>
      t.pc == 0x1001#16 && t.cc == 0xFF#8 := by decide
theorem test_bita_VC2 :
    gives (step ({ start with a := 0x80#8, cc := 0x03#8 } |>.poke 0x1000#16 [0x85#8, 0x80#8])) fun t =>
      t.pc == 0x1002#16 && t.cc == 0x09#8 := by decide
theorem test_bitb_VC3 :
    gives (step ({ start with b := 0xC0#8 } |>.poke 0x1000#16 [0xC5#8, 0x80#8])) fun t =>
      t.pc == 0x1002#16 && t.cc == 0x08#8 := by decide
theorem test_cmpa_VC4 :
    gives (step ({ start with a := 0x0F#8 } |>.poke 0x1000#16 [0x81#8, 0x10#8])) fun t =>
      t.pc == 0x1002#16 && t.cc == 0x09#8 := by decide
theorem test_cmpb_VC7 :
    gives (step ({ start with b := 0x7F#8 } |>.poke 0x1000#16 [0xC1#8, 0x80#8])) fun t =>
      t.pc == 0x1002#16 && t.cc == 0x0B#8 := by decide
theorem test_cmpd_VC8 :
    gives (step ({ start with a := 0x12#8, b := 0x34#8 } |>.poke 0x1000#16 [0x10#8, 0x83#8, 0x12#8, 0x34#8])) fun t =>
      t.pc == 0x1004#16 && t.cc == 0x04#8 := by decide
theorem test_cmpx_VC10 :
    gives (step ({ start with x := 0x1FFF#16 } |>.poke 0x1000#16 [0x8C#8, 0x20#8, 0x00#8])) fun t =>
      t.pc == 0x1003#16 && t.cc == 0x09#8 := by decide
theorem test_cmpy_VC12 :
    gives (step ({ start with y := 0x8000#16 } |>.poke 0x1000#16 [0x10#8, 0x8C#8, 0x00#8, 0x00#8])) fun t =>
      t.pc == 0x1004#16 && t.cc == 0x08#8 := by decide
theorem test_cmpu_VC13 :
    gives (step ({ start with u := 0xC000#16 } |>.poke 0x1000#16 [0x11#8, 0x83#8, 0xC0#8, 0x00#8])) fun t =>
      t.pc == 0x1004#16 && t.cc == 0x04#8 := by decide
theorem test_cmps_VC14 :
    gives (step ({ start with s := 0x7FFF#16 } |>.poke 0x1000#16 [0x11#8, 0x8C#8, 0x80#8, 0x00#8])) fun t =>
      t.pc == 0x1004#16 && t.cc == 0x0B#8 := by decide
theorem test_tsta_VC16 :
    gives (step ({ start with a := 0x80#8, cc := 0x01#8 } |>.poke 0x1000#16 [0x4D#8])) fun t =>
      t.pc == 0x1001#16 && t.cc == 0x09#8 := by decide
theorem test_tstb_VC17 :
    gives (step ({ start with cc := 0x0A#8 } |>.poke 0x1000#16 [0x5D#8])) fun t =>
      t.pc == 0x1001#16 && t.cc == 0x04#8 := by decide
theorem test_tst_VC18 :
    gives (step (start |>.poke 0x1000#16 [0x7D#8, 0x20#8, 0x00#8] |>.poke 0x2000#16 [0x7F#8])) fun t =>
      t.pc == 0x1003#16 && t.cc == 0x00#8 := by decide
theorem test_bra_VB1 :
    gives (step (start |>.poke 0x1000#16 [0x20#8, 0x0E#8])) fun t =>
      t.pc == 0x1010#16 && t.cc == 0x00#8 := by decide
theorem test_brn_VB5 :
    gives (step (start |>.poke 0x1000#16 [0x21#8, 0x0E#8])) fun t =>
      t.pc == 0x1002#16 && t.cc == 0x00#8 := by decide
theorem test_bhi_VB7 :
    gives (step (start |>.poke 0x1000#16 [0x22#8, 0x0E#8])) fun t =>
      t.pc == 0x1010#16 && t.cc == 0x00#8 := by decide
theorem test_bls_VB11 :
    gives (step ({ start with cc := 0x01#8 } |>.poke 0x1000#16 [0x23#8, 0x0E#8])) fun t =>
      t.pc == 0x1010#16 && t.cc == 0x01#8 := by decide
theorem test_bcc_VB14 :
    gives (step (start |>.poke 0x1000#16 [0x24#8, 0x0E#8])) fun t =>
      t.pc == 0x1010#16 && t.cc == 0x00#8 := by decide
theorem test_bcs_VB17 :
    gives (step ({ start with cc := 0x01#8 } |>.poke 0x1000#16 [0x25#8, 0xFC#8])) fun t =>
      t.pc == 0x0FFE#16 && t.cc == 0x01#8 := by decide
theorem test_bne_VB19 :
    gives (step (start |>.poke 0x1000#16 [0x26#8, 0xFB#8])) fun t =>
      t.pc == 0x0FFD#16 && t.cc == 0x00#8 := by decide
theorem test_beq_VB21 :
    gives (step ({ start with cc := 0x04#8 } |>.poke 0x1000#16 [0x27#8, 0x0E#8])) fun t =>
      t.pc == 0x1010#16 && t.cc == 0x04#8 := by decide
theorem test_bvc_VB23 :
    gives (step (start |>.poke 0x1000#16 [0x28#8, 0x0E#8])) fun t =>
      t.pc == 0x1010#16 && t.cc == 0x00#8 := by decide
theorem test_bvs_VB25 :
    gives (step ({ start with cc := 0x02#8 } |>.poke 0x1000#16 [0x29#8, 0x0E#8])) fun t =>
      t.pc == 0x1010#16 && t.cc == 0x02#8 := by decide
theorem test_bpl_VB27 :
    gives (step (start |>.poke 0x1000#16 [0x2A#8, 0x0E#8])) fun t =>
      t.pc == 0x1010#16 && t.cc == 0x00#8 := by decide
theorem test_bmi_VB29 :
    gives (step ({ start with cc := 0x08#8 } |>.poke 0x1000#16 [0x2B#8, 0x80#8])) fun t =>
      t.pc == 0x0F82#16 && t.cc == 0x08#8 := by decide
theorem test_bge_VB31 :
    gives (step ({ start with cc := 0x0A#8 } |>.poke 0x1000#16 [0x2C#8, 0x0E#8])) fun t =>
      t.pc == 0x1010#16 && t.cc == 0x0A#8 := by decide
theorem test_blt_VB35 :
    gives (step ({ start with cc := 0x08#8 } |>.poke 0x1000#16 [0x2D#8, 0x0E#8])) fun t =>
      t.pc == 0x1010#16 && t.cc == 0x08#8 := by decide
theorem test_bgt_VB39 :
    gives (step (start |>.poke 0x1000#16 [0x2E#8, 0x0E#8])) fun t =>
      t.pc == 0x1010#16 && t.cc == 0x00#8 := by decide
theorem test_ble_VB44 :
    gives (step ({ start with cc := 0x04#8 } |>.poke 0x1000#16 [0x2F#8, 0x0E#8])) fun t =>
      t.pc == 0x1010#16 && t.cc == 0x04#8 := by decide
theorem test_lbra_VB49 :
    gives (step (start |>.poke 0x1000#16 [0x16#8, 0x01#8, 0x00#8])) fun t =>
      t.pc == 0x1103#16 && t.cc == 0x00#8 := by decide
theorem test_lbrn_VB51 :
    gives (step (start |>.poke 0x1000#16 [0x10#8, 0x21#8, 0x01#8, 0x00#8])) fun t =>
      t.pc == 0x1004#16 && t.cc == 0x00#8 := by decide
theorem test_lbhi_VB52 :
    gives (step (start |>.poke 0x1000#16 [0x10#8, 0x22#8, 0x01#8, 0x00#8])) fun t =>
      t.pc == 0x1104#16 && t.cc == 0x00#8 := by decide
theorem test_lbls_VB54 :
    gives (step ({ start with cc := 0x04#8 } |>.poke 0x1000#16 [0x10#8, 0x23#8, 0x01#8, 0x00#8])) fun t =>
      t.pc == 0x1104#16 && t.cc == 0x04#8 := by decide
theorem test_lbcc_VB56 :
    gives (step (start |>.poke 0x1000#16 [0x10#8, 0x24#8, 0x01#8, 0x00#8])) fun t =>
      t.pc == 0x1104#16 && t.cc == 0x00#8 := by decide
theorem test_lbcs_VB58 :
    gives (step ({ start with cc := 0x01#8 } |>.poke 0x1000#16 [0x10#8, 0x25#8, 0xF0#8, 0x00#8])) fun t =>
      t.pc == 0x0004#16 && t.cc == 0x01#8 := by decide
theorem test_lbne_VB61 :
    gives (step ({ start with cc := 0x04#8 } |>.poke 0x1000#16 [0x10#8, 0x26#8, 0xFF#8, 0xFC#8])) fun t =>
      t.pc == 0x1004#16 && t.cc == 0x04#8 := by decide
theorem test_lbeq_VB62 :
    gives (step ({ start with cc := 0x04#8 } |>.poke 0x1000#16 [0x10#8, 0x27#8, 0x01#8, 0x00#8])) fun t =>
      t.pc == 0x1104#16 && t.cc == 0x04#8 := by decide
theorem test_lbvc_VB64 :
    gives (step (start |>.poke 0x1000#16 [0x10#8, 0x28#8, 0x01#8, 0x00#8])) fun t =>
      t.pc == 0x1104#16 && t.cc == 0x00#8 := by decide
theorem test_lbvs_VB66 :
    gives (step ({ start with cc := 0x02#8 } |>.poke 0x1000#16 [0x10#8, 0x29#8, 0x01#8, 0x00#8])) fun t =>
      t.pc == 0x1104#16 && t.cc == 0x02#8 := by decide
theorem test_lbpl_VB68 :
    gives (step (start |>.poke 0x1000#16 [0x10#8, 0x2A#8, 0x01#8, 0x00#8])) fun t =>
      t.pc == 0x1104#16 && t.cc == 0x00#8 := by decide
theorem test_lbmi_VB70 :
    gives (step ({ start with cc := 0x08#8 } |>.poke 0x1000#16 [0x10#8, 0x2B#8, 0x01#8, 0x00#8])) fun t =>
      t.pc == 0x1104#16 && t.cc == 0x08#8 := by decide
theorem test_lbge_VB72 :
    gives (step (start |>.poke 0x1000#16 [0x10#8, 0x2C#8, 0x01#8, 0x00#8])) fun t =>
      t.pc == 0x1104#16 && t.cc == 0x00#8 := by decide
theorem test_lblt_VB74 :
    gives (step ({ start with cc := 0x02#8 } |>.poke 0x1000#16 [0x10#8, 0x2D#8, 0x01#8, 0x00#8])) fun t =>
      t.pc == 0x1104#16 && t.cc == 0x02#8 := by decide
theorem test_lbgt_VB76 :
    gives (step ({ start with cc := 0x0A#8 } |>.poke 0x1000#16 [0x10#8, 0x2E#8, 0x01#8, 0x00#8])) fun t =>
      t.pc == 0x1104#16 && t.cc == 0x0A#8 := by decide
theorem test_lble_VB78 :
    gives (step ({ start with cc := 0x08#8 } |>.poke 0x1000#16 [0x10#8, 0x2F#8, 0x01#8, 0x00#8])) fun t =>
      t.pc == 0x1104#16 && t.cc == 0x08#8 := by decide
theorem test_jmp_VJ2 :
    gives (step ({ start with dp := 0x30#8 } |>.poke 0x1000#16 [0x0E#8, 0x20#8])) fun t =>
      t.pc == 0x3020#16 && t.cc == 0x00#8 := by decide
theorem test_jsr_VJ6 :
    gives (step ({ start with dp := 0x30#8 } |>.poke 0x1000#16 [0x9D#8, 0x20#8])) fun t =>
      t.s == 0x7FFE#16 && t.pc == 0x3020#16 && t.cc == 0x00#8 && t.holds 0x7FFE#16 [0x10#8, 0x02#8] := by decide
theorem test_bsr_VJ9 :
    gives (step (start |>.poke 0x1000#16 [0x8D#8, 0x0E#8])) fun t =>
      t.s == 0x7FFE#16 && t.pc == 0x1010#16 && t.cc == 0x00#8 && t.holds 0x7FFE#16 [0x10#8, 0x02#8] := by decide
theorem test_lbsr_VJ11 :
    gives (step (start |>.poke 0x1000#16 [0x17#8, 0x01#8, 0x00#8])) fun t =>
      t.s == 0x7FFE#16 && t.pc == 0x1103#16 && t.cc == 0x00#8 && t.holds 0x7FFE#16 [0x10#8, 0x03#8] := by decide
theorem test_rts_VJ12 :
    gives (step ({ start with s := 0x7FFE#16, cc := 0x0F#8 } |>.poke 0x1000#16 [0x39#8]
        |>.poke 0x7FFE#16 [0x10#8, 0x03#8])) fun t =>
      t.s == 0x8000#16 && t.pc == 0x1003#16 && t.cc == 0x0F#8 := by decide
theorem test_leax_VJ14 :
    gives (step ({ start with x := 0xFFFF#16 } |>.poke 0x1000#16 [0x30#8, 0x01#8])) fun t =>
      t.x == 0x0000#16 && t.pc == 0x1002#16 && t.cc == 0x04#8 := by decide
theorem test_leay_VJ24 :
    gives (step ({ start with y := 0x0001#16 } |>.poke 0x1000#16 [0x31#8, 0x3F#8])) fun t =>
      t.y == 0x0000#16 && t.pc == 0x1002#16 && t.cc == 0x04#8 := by decide
theorem test_leas_VJ25 :
    gives (step ({ start with cc := 0x04#8 } |>.poke 0x1000#16 [0x32#8, 0x7E#8])) fun t =>
      t.s == 0x7FFE#16 && t.pc == 0x1002#16 && t.cc == 0x04#8 && t.nmiArmed := by decide
theorem test_leau_VJ28 :
    gives (step ({ start with a := 0x01#8, u := 0x4000#16 } |>.poke 0x1000#16 [0x33#8, 0xCB#8])) fun t =>
      t.u == 0x4100#16 && t.pc == 0x1002#16 && t.cc == 0x00#8 := by decide
theorem test_cwai_VX9 :
    gives (step ({ start with cc := 0x50#8 } |>.withVectors |>.poke 0x1000#16 [0x3C#8, 0xFF#8])) fun t =>
      t.s == 0x7FF4#16 && t.pc == 0x1002#16 && t.cc == 0xD0#8 && t.holds 0x7FF4#16 [0xD0#8] &&
        t.holds 0x7FFE#16 [0x10#8, 0x02#8] && t.waitState == .cwaiWait := by decide
theorem test_sync_VX10 :
    gives (step ({ start with cc := 0x50#8 } |>.poke 0x1000#16 [0x13#8])) fun t =>
      t.pc == 0x1001#16 && t.cc == 0x50#8 && t.waitState == .syncWait := by decide
theorem test_rti_VX5 :
    gives (step ({ start with s := 0x7FF4#16, pc := 0xE000#16 } |>.poke 0xE000#16 [0x3B#8]
        |>.poke 0x7FF4#16 [0x80#8, 0x11#8, 0x22#8]
        |>.poke 0x7FF8#16 [0x33#8, 0x33#8, 0x44#8, 0x44#8, 0x55#8, 0x55#8, 0x10#8, 0x01#8])) fun t =>
      t.a == 0x11#8 && t.b == 0x22#8 && t.x == 0x3333#16 && t.y == 0x4444#16 && t.u == 0x5555#16 &&
        t.s == 0x8000#16 && t.pc == 0x1001#16 && t.cc == 0x80#8 := by decide
theorem test_swi_VX1 :
    gives (step ({ start with a := 0x11#8, b := 0x22#8, x := 0x3333#16, y := 0x4444#16, u := 0x5555#16 }
        |>.withVectors |>.poke 0x1000#16 [0x3F#8])) fun t =>
      t.s == 0x7FF4#16 && t.pc == 0xE000#16 && t.cc == 0xD0#8 && t.holds 0x7FF4#16 [0x80#8, 0x11#8, 0x22#8] &&
        t.holds 0x7FF8#16 [0x33#8, 0x33#8, 0x44#8, 0x44#8, 0x55#8, 0x55#8, 0x10#8, 0x01#8] := by decide
theorem test_swi2_VX3 :
    gives (step ({ start with cc := 0x01#8 } |>.withVectors |>.poke 0x1000#16 [0x10#8, 0x3F#8])) fun t =>
      t.s == 0x7FF4#16 && t.pc == 0xE200#16 && t.cc == 0x81#8 && t.holds 0x7FF4#16 [0x81#8] &&
        t.holds 0x7FFE#16 [0x10#8, 0x02#8] := by decide
theorem test_swi3_VX4 :
    gives (step ({ start with cc := 0x04#8 } |>.withVectors |>.poke 0x1000#16 [0x11#8, 0x3F#8])) fun t =>
      t.s == 0x7FF4#16 && t.pc == 0xE300#16 && t.cc == 0x84#8 && t.holds 0x7FF4#16 [0x84#8] &&
        t.holds 0x7FFE#16 [0x10#8, 0x02#8] := by decide

/-! ## Addresses, refusals, interrupts, reset -/

theorem test_indexed_sum_wraps_VM11 :
    gives (step ({ start with y := 0x0000#16 } |>.poke 0x1000#16 [0xA6#8, 0x3F#8] |>.poke 0xFFFF#16 [0x04#8])) fun t =>
      t.a == 0x04#8 && t.cc == 0x00#8 && t.pc == 0x1002#16 := by decide
theorem test_indirect_pointer_wraps_VM35 :
    gives (step (start |>.poke 0x1000#16 [0xA6#8, 0x9F#8, 0xFF#8, 0xFF#8] |>.poke 0xFFFF#16 [0x40#8, 0x01#8]
        |>.poke 0x4001#16 [0x29#8])) fun t => t.a == 0x29#8 && t.pc == 0x1004#16 := by decide
theorem test_autoincrement_before_store_VM44 :
    gives (step ({ start with x := 0x3000#16 } |>.poke 0x1000#16 [0xAF#8, 0x81#8])) fun t =>
      t.x == 0x3002#16 && t.holds 0x3000#16 [0x30#8, 0x02#8] := by decide
theorem test_illegal_opcode_VM45 : refuses (step (start |>.poke 0x1000#16 [0x01#8])) .illegalOpcode := by decide
theorem test_illegal_indexed_postbyte_VM36 :
    refuses (step (start |>.poke 0x1000#16 [0xA6#8, 0x90#8])) .illegalIndexedPostbyte := by decide
theorem test_illegal_register_postbyte_VT9 :
    refuses (step (start |>.poke 0x1000#16 [0x1E#8, 0x81#8])) .illegalRegisterPostbyte := by decide
theorem test_rti_short_frame_VX6 :
    gives (step ({ start with a := 0x99#8, s := 0x7FFD#16, pc := 0xE400#16 } |>.poke 0xE400#16 [0x3B#8]
        |>.poke 0x7FFD#16 [0x05#8, 0x10#8, 0x20#8])) fun t =>
      t.a == 0x99#8 && t.s == 0x8000#16 && t.cc == 0x05#8 && t.pc == 0x1020#16 := by decide
theorem test_irq_taken_VE1 :
    gives (step ({ start with a := 0x11#8, pc := 0x1234#16, irqEnv := [⟨false, false, false, true⟩] } |>.withVectors)) fun t =>
      t.s == 0x7FF4#16 && t.holds 0x7FF4#16 [0x80#8, 0x11#8] && t.holds 0x7FFE#16 [0x12#8, 0x34#8] && t.cc == 0x90#8 &&
        t.pc == 0xE100#16 := by decide
theorem test_irq_masked_VE2 :
    gives (step ({ start with cc := 0x10#8, irqEnv := [⟨false, false, false, true⟩] } |>.poke 0x1000#16 [0x12#8])) fun t =>
      t.cc == 0x10#8 && t.pc == 0x1001#16 := by decide
theorem test_firq_clears_stacked_e_VE4 :
    gives (step ({ start with cc := 0x80#8, pc := 0x1234#16, irqEnv := [⟨false, false, true, false⟩] } |>.withVectors)) fun t =>
      t.s == 0x7FFD#16 && t.holds 0x7FFD#16 [0x00#8, 0x12#8, 0x34#8] && t.cc == 0x50#8 && t.pc == 0xE400#16 := by decide
theorem test_nmi_before_firq_and_irq_VE9 :
    gives (step ({ start with pc := 0x1234#16, nmiArmed := true, irqEnv := [⟨false, true, true, true⟩] } |>.withVectors)) fun t =>
      t.s == 0x7FF4#16 && t.holds 0x7FF4#16 [0x80#8] && t.cc == 0xD0#8 && t.pc == 0xE500#16 && !t.nmiPending := by decide
theorem test_unarmed_nmi_ignored_VE8 :
    gives (step ({ start with cc := 0x50#8, irqEnv := [⟨false, true, false, false⟩] } |>.poke 0x1000#16 [0x12#8])) fun t =>
      t.pc == 0x1001#16 && !t.nmiPending := by decide
theorem test_cwai_ends_without_a_second_frame_VE14 :
    gives (step ({ start with cc := 0x90#8, waitState := .cwaiWait, irqEnv := [⟨false, false, true, false⟩] } |>.withVectors))
      fun t => t.s == 0x8000#16 && t.cc == 0xD0#8 && t.pc == 0xE400#16 && t.waitState == .running := by decide
theorem test_cwai_waits_on_masked_irq_VE13 :
    gives (step { start with cc := 0x90#8, waitState := .cwaiWait, irqEnv := [⟨false, false, false, true⟩] }) fun t =>
      t.pc == 0x1000#16 && t.waitState == .cwaiWait := by decide
theorem test_sync_ends_on_masked_irq_VE16 :
    gives (step ({ start with cc := 0x50#8, waitState := .syncWait, irqEnv := [⟨false, false, false, true⟩] }
        |>.poke 0x1000#16 [0x4C#8])) fun t =>
      t.a == 0x01#8 && t.cc == 0x50#8 && t.pc == 0x1001#16 && t.waitState == .running := by decide
theorem test_reset_VE10 :
    gives (step ({ start with dp := 0x20#8, nmiArmed := true, irqEnv := [⟨true, true, true, true⟩] } |>.withVectors)) fun t =>
      t.dp == 0x00#8 && t.pc == 0xF000#16 && !t.nmiArmed && !t.nmiPending && t.waitState == .running := by decide

/-! ## The obligations' hypotheses are met -/

/-- A NOP at PC. -/
def nopAt : State := start.poke 0x1000#16 [0x12#8]

/-- ROM at $F000 and above but for a device at $F800 and $F801 and nothing at $F802; RAM below. -/
def mapped : State :=
  { start with memMap := [⟨0xF800#16, 0xF801#16, .device⟩, ⟨0xF802#16, 0xF802#16, .empty⟩, ⟨0xF000#16, 0xFFFF#16, .rom⟩] }

theorem witness_DecodeOfEncodeIsTheInstruction :
    (Instr.exg (.r8 .a) (.r8 .dp)).wellFormed = true ∧ Instr.nop.wellFormed = true := by decide

theorem witness_DecodedBytesHaveTheEncodedLength :
    decode [0x12#8, 0x00#8] = .ok (.nop, [0x00#8]) ∧
    decode [0x10#8, 0xAE#8, 0x89#8, 0x12#8, 0x34#8] = .ok (.ldy (.mem (.idx (.off16 .x 0x1234#16 false))), []) := by decide

theorem witness_IllegalOpcodesAreExactlyThose :
    (0x01#8 : Byte) ≠ 0x10#8 ∧ (0x01#8 : Byte) ≠ 0x11#8 ∧ (0xCF#8 : Byte) ≠ 0x10#8 ∧ (0xCF#8 : Byte) ≠ 0x11#8 := by decide

theorem witness_RegisterPostbytesNameTwoRegistersOfOneSize :
    (0b0110#4 : BitVec 4) ∈ [0b0110#4, 0b0111#4, 0b1100#4, 0b1101#4, 0b1110#4, 0b1111#4] ∧
    (0b1111#4 : BitVec 4) ∈ [0b0110#4, 0b0111#4, 0b1100#4, 0b1101#4, 0b1110#4, 0b1111#4] := by decide

theorem witness_StepRunsTheDecodedInstruction :
    nopAt.undisturbed ∧ decode nopAt.tickInputs.fetch.1 = .ok (.nop, []) ∧ Instr.nop.wellFormed = true :=
  ⟨⟨rfl, rfl, rfl⟩, by decide, by decide⟩

theorem witness_StepExecutesTheEncodedInstruction :
    nopAt.undisturbed ∧ Instr.nop.wellFormed = true ∧ nopAt.holdsBytes nopAt.pc (encode .nop) :=
  ⟨⟨rfl, rfl, rfl⟩, by decide, ⟨.inl rfl, by decide, trivial⟩⟩

theorem witness_IllegalBytesAreRefusedByTheStep :
    start.undisturbed ∧ (start.poke 0x1000#16 [0x01#8]).undisturbed ∧
    (start.poke 0x1000#16 [0x01#8]).holdsBytes 0x1000#16 [0x01#8] ∧ decode [0x01#8] = .error .illegalOpcode ∧
    DecodeError.illegalOpcode ≠ .truncated ∧
    (start.poke 0x1000#16 [0xA6#8, 0x90#8]).holdsBytes 0x1000#16 [0xA6#8, 0x90#8] ∧
    decode [0xA6#8, 0x90#8] = .error .illegalIndexedPostbyte ∧
    (start.poke 0x1000#16 [0x1E#8, 0x81#8]).holdsBytes 0x1000#16 [0x1E#8, 0x81#8] ∧
    decode [0x1E#8, 0x81#8] = .error .illegalRegisterPostbyte :=
  ⟨⟨rfl, rfl, rfl⟩, ⟨rfl, rfl, rfl⟩, ⟨.inl rfl, by decide, trivial⟩, by decide, by decide,
    ⟨.inl rfl, by decide, .inl rfl, by decide, trivial⟩, by decide, ⟨.inl rfl, by decide, .inl rfl, by decide, trivial⟩,
    by decide⟩

theorem witness_EveryStepKeepsTheInvariant : start.Inv ∧ ∃ t, step start = .next t :=
  ⟨⟨by decide, by decide⟩, ⟨_, rfl⟩⟩

theorem witness_RomMapAndParametersNeverChange :
    mapped.Inv ∧ (∃ t, step mapped = .next t) ∧ mapped.kindAt 0xF000#16 ≠ .ram ∧ mapped.kindAt 0xF802#16 ≠ .ram :=
  ⟨⟨by decide, by decide⟩, ⟨_, rfl⟩, by decide, by decide⟩

theorem witness_NmiStaysArmedUntilReset :
    (∃ t, step { start with nmiArmed := true } = .next t) ∧ start.inputs.resetLow = false ∧
    ∃ t, step { start with nmiArmed := true, irqEnv := [⟨true, false, false, false⟩] } = .next t :=
  ⟨⟨_, rfl⟩, rfl, ⟨_, rfl⟩⟩

/-- Each instruction of the list arms NMI in a state in which it is not armed. -/
theorem witness_OnlyLoadsOfSArmNmi :
    start.nmiArmed = false ∧ start.nmiArming = .anyWriteToS ∧
    gives (exec (.lds (.imm 0x8000#16)) start) State.nmiArmed = true ∧
    gives (exec (.leas (.off0 .x false)) start) State.nmiArmed = true ∧
    gives (exec (.tfr (.r16 .x) (.r16 .s)) start) State.nmiArmed = true ∧
    gives (exec (.exg (.r16 .x) (.r16 .s)) start) State.nmiArmed = true ∧
    gives (exec (.exg (.r16 .s) (.r16 .x)) start) State.nmiArmed = true ∧
    gives (exec (.pulu 0x40#8) start) State.nmiArmed = true := by decide

theorem witness_StepsUseOneInputAndExtendTheRecord : ∃ t, step nopAt = .next t := ⟨_, rfl⟩

theorem witness_AccessesFollowTheKindOfAddress :
    mapped.kindAt 0x0000#16 = .ram ∧ mapped.kindAt 0xEFFF#16 = .ram ∧ mapped.kindAt 0xF000#16 = .rom ∧
    mapped.kindAt 0xFFFF#16 = .rom ∧ mapped.kindAt 0xF800#16 = .device ∧ mapped.kindAt 0xF801#16 = .device ∧
    mapped.kindAt 0xF802#16 = .empty ∧ mapped.mem.wf = true := by decide

theorem witness_WordsLieHighByteFirst :
    start.mem.wf = true ∧ start.ramAt 0x0000#16 2 ∧ start.ramAt 0xFFFF#16 2 :=
  ⟨by decide, ⟨rfl, rfl, trivial⟩, ⟨rfl, rfl, trivial⟩⟩

theorem witness_AddressSideEffectsComeFirst :
    start.mem.wf = true ∧ start.ramAt start.x 2 ∧ State.s { start with s := 0x0000#16 } = 0x0000#16 :=
  ⟨by decide, ⟨rfl, rfl, trivial⟩, rfl⟩

theorem witness_DevicesSeeAccessesInOrder :
    mapped.kindAt 0xF800#16 = .device ∧ mapped.kindAt (0xF800#16 + 1#16) = .device ∧
    State.kindAt { mapped with s := 0xF802#16 } (0xF802#16 - 1#16) = .device ∧
    State.kindAt { mapped with s := 0xF802#16 } (0xF802#16 - 2#16) = .device := by decide

theorem witness_StoresWriteRegisterAndFlags : start.mem.wf = true ∧ nopAt.mem.wf = true := by decide

theorem witness_ExchangesAndTransfers :
    Reg.sameSize (.r8 .a) (.r16 .d) = false ∧ Reg.sameSize (.r16 .pc) (.r8 .dp) = false ∧
    Reg.sameSize (.r8 .a) (.r8 .dp) = true ∧ Reg.sameSize (.r16 .d) (.r16 .pc) = true ∧
    decodeRegisterPostbyte 0x60#8 = .error .illegalRegisterPostbyte ∧
    decodeRegisterPostbyte 0x80#8 = .error .illegalRegisterPostbyte := by decide

theorem witness_PushesStoreTheSelectedRegisters : start.mem.wf = true := by decide

theorem witness_PullsLoadTheSelectedRegisters :
    (0x01#8 : Byte).getLsbD 0 = true ∧ (0xFF#8 : Byte).getLsbD 1 = true ∧ (0xFF#8 : Byte).getLsbD 2 = true ∧
    (0xFF#8 : Byte).getLsbD 3 = true ∧ (0xFF#8 : Byte).getLsbD 4 = true ∧ (0xFF#8 : Byte).getLsbD 5 = true ∧
    (0xFF#8 : Byte).getLsbD 6 = true ∧ (0x80#8 : Byte).getLsbD 7 = true := by decide

/-- All memory is RAM, so the twelve bytes below any stack pointer are. -/
theorem all_ram (s : State) (h : s.memMap = []) (n : Nat) : ∀ a, s.ramAt a n := by
  induction n with
  | zero => exact fun _ => trivial
  | succ n ih => exact fun a => ⟨by rw [State.kindAt, h]; rfl, ih _⟩

theorem witness_PullAfterPushRestores :
    start.mem.wf = true ∧ start.ramAt (start.s - 12#16) 12 ∧ start.ramAt (start.u - 12#16) 12 :=
  ⟨by decide, all_ram start rfl 12 _, all_ram start rfl 12 _⟩

theorem witness_undefined_flags_may_be_left_unchanged : start.undefinedFlag = .unchanged ∧ State.reset.undefinedFlag = .draw := by
  decide

theorem witness_DaaGivesTheDecimalSum :
    (99 < 100 ∧ State.a { start with a := 0x99#8 } = BitVec.ofNat 8 (99 / 10 * 16 + 99 % 10) ∧
      (State.operand8 start (.imm 0x99#8)).1 = BitVec.ofNat 8 (99 / 10 * 16 + 99 % 10)) ∧
    (0 < 100 ∧ start.a = BitVec.ofNat 8 (0 / 10 * 16 + 0 % 10) ∧
      (start.operand8 (.imm 0x00#8)).1 = BitVec.ofNat 8 (0 / 10 * 16 + 0 % 10)) := by decide

theorem witness_RightShiftsAndRotates : start.mem.wf = true := by decide
theorem witness_LeftShiftsAndRotates : start.mem.wf = true := by decide
theorem witness_ClearDecrementIncrement : start.mem.wf = true := by decide
theorem witness_ComplementAndNegate : start.mem.wf = true := by decide
theorem witness_JumpsAndCalls : start.mem.wf = true := by decide
theorem witness_SoftwareInterrupts : start.mem.wf = true := by decide
theorem witness_CwaiAndSyncWait : start.mem.wf = true := by decide

theorem witness_BranchesFollowTheirConditions :
    ∃ r ∈ branchTable, r.cond = .always ∧ r.taken start = true := ⟨_, .head _, rfl, rfl⟩

theorem witness_RtsPullsPcAndUndoesACall :
    start.mem.wf = true ∧ start.ramAt (start.s - 2#16) 2 ∧ start.ramAt ((start.resolveEA (.idx (.dec2 .s false))).2.s - 2#16) 2 :=
  ⟨by decide, all_ram start rfl 2 _, all_ram start rfl 2 _⟩

theorem witness_LoadEffectiveAddress :
    (∃ t, exec (.leax (.off0 .y false)) start = .next t) ∧ (∃ t, exec (.leay (.off0 .y false)) start = .next t) ∧
    ∃ t, exec (.leas (.off0 .y false)) start = .next t := ⟨⟨_, rfl⟩, ⟨_, rfl⟩, ⟨_, rfl⟩⟩

theorem witness_RtiPullsByTheStackedE :
    ((start.poke 0x8000#16 [0x80#8]).readByte 0x8000#16).1.getLsbD 7 = true ∧
    (start.readByte start.s).1.getLsbD 7 = false := by decide

/-- The state with these inputs at this step. -/
def withInputs (s : State) (nmi firq irq : Bool) : State := { s with irqEnv := [⟨false, nmi, firq, irq⟩] }

theorem witness_InterruptThenRtiRestoresTheProgram :
    (withInputs start false true true).mem.wf = true ∧
    (withInputs start false true true).ramAt ((withInputs start false true true).s - 12#16) 12 ∧
    (withInputs start false true true).inputs.resetLow = false ∧ (withInputs start false true true).waitState = .running ∧
    firqPresent (withInputs start false true true) ∧ irqPresent (withInputs start false true true) ∧
    nmiLatched (withInputs { start with nmiArmed := true } true false false) :=
  ⟨by decide, all_ram _ rfl 12 _, rfl, rfl, ⟨rfl, rfl⟩, ⟨rfl, rfl⟩, .inr ⟨rfl, rfl⟩⟩

theorem not_latched (s : State) (h1 : s.nmiPending = false) (h2 : s.inputs.nmiFell = false) : ¬nmiLatched s := by
  simp [nmiLatched, h1, h2]

/-- NMI with all three lines, FIRQ with FIRQ and IRQ, IRQ alone, and IRQ with FIRQ low and masked; running and in SYNC. -/
theorem witness_HardwareInterruptEntries :
    start.mem.wf = true ∧ (withInputs start true true true).inputs.resetLow = false ∧ start.waitState ≠ .cwaiWait ∧
    State.waitState { start with waitState := .syncWait } ≠ .cwaiWait ∧
    nmiLatched (withInputs { start with nmiArmed := true } true true true) ∧
    (¬nmiLatched (withInputs start false true true) ∧ firqPresent (withInputs start false true true)) ∧
    (¬nmiLatched (withInputs start false false true) ∧ ¬firqPresent (withInputs start false false true) ∧
      irqPresent (withInputs start false false true)) ∧
    (¬firqPresent (withInputs { start with cc := 0x40#8 } false true true) ∧
      irqPresent (withInputs { start with cc := 0x40#8 } false true true)) :=
  ⟨by decide, rfl, by decide, by decide, .inr ⟨rfl, rfl⟩, ⟨not_latched _ rfl rfl, rfl, rfl⟩,
    ⟨not_latched _ rfl rfl, fun h => Bool.noConfusion h.1, rfl, rfl⟩, fun h => absurd h.2 (by decide), rfl, by decide⟩

/-- Waiting in SYNC or in CWAI. -/
def waiting (w : WaitState) (cc : Byte) : State := { start with waitState := w, cc := cc }

theorem witness_WaitStatesEndAsTheyShould :
    ((waiting .syncWait 0x00#8).inputs.resetLow = false ∧ (waiting .syncWait 0x00#8).waitState = .syncWait ∧
      ¬nmiLatched (waiting .syncWait 0x00#8) ∧ (waiting .syncWait 0x00#8).inputs.firqLow = false ∧
      (waiting .syncWait 0x00#8).inputs.irqLow = false) ∧
    (withInputs (waiting .syncWait 0x50#8) false true false).inputs.firqLow = true ∧
    (withInputs (waiting .syncWait 0x50#8) false false true).inputs.irqLow = true ∧
    nmiLatched { waiting .syncWait 0x50#8 with nmiPending := true } ∧
    ((waiting .cwaiWait 0xD0#8).waitState = .cwaiWait ∧
      ¬nmiLatched (withInputs (waiting .cwaiWait 0xD0#8) false true true) ∧
      ¬firqPresent (withInputs (waiting .cwaiWait 0xD0#8) false true true) ∧
      ¬irqPresent (withInputs (waiting .cwaiWait 0xD0#8) false true true)) ∧
    nmiLatched { waiting .cwaiWait 0xD0#8 with nmiPending := true } ∧
    (¬nmiLatched (withInputs (waiting .cwaiWait 0x90#8) false true false) ∧
      firqPresent (withInputs (waiting .cwaiWait 0x90#8) false true false)) ∧
    (¬nmiLatched (withInputs (waiting .cwaiWait 0xC0#8) false true true) ∧
      ¬firqPresent (withInputs (waiting .cwaiWait 0xC0#8) false true true) ∧
      irqPresent (withInputs (waiting .cwaiWait 0xC0#8) false true true)) :=
  ⟨⟨rfl, rfl, not_latched _ rfl rfl, rfl, rfl⟩, rfl, rfl, .inl rfl,
    ⟨rfl, not_latched _ rfl rfl, fun h => absurd h.2 (by decide), fun h => absurd h.2 (by decide)⟩, .inl rfl,
    ⟨not_latched _ rfl rfl, rfl, by decide⟩, ⟨not_latched _ rfl rfl, fun h => absurd h.2 (by decide), rfl, by decide⟩⟩

theorem witness_ResetStep :
    State.inputs { start with irqEnv := [⟨true, false, false, false⟩] } = ⟨true, false, false, false⟩ ∧
    start.holdsBytes 0xFFFE#16 [start.byteAt 0xFFFE#16, start.byteAt 0xFFFF#16] :=
  ⟨rfl, ⟨.inl rfl, rfl, .inl rfl, rfl, trivial⟩⟩

end Sys2Proof.Tests
end

section
/-! SUPPORT. When a list of bytes holds a whole instruction: the decoder says `truncated` exactly where `bytesNeeded`
asks for more bytes than there are, and bytes after a whole instruction do not change what is decoded (30_encoding.md R70, R74). -/

namespace Sys2Proof

/-! ## Too few bytes -/

theorem takeByte_truncated_iff {α : Type} (k : Byte → α) (bs : List Byte) :
    takeByte k bs = .error .truncated ↔ bs.length < 1 := by
  cases bs <;> simp [takeByte]

theorem takeWord_truncated_iff {α : Type} (k : Word → α) (bs : List Byte) :
    takeWord k bs = .error .truncated ↔ bs.length < 2 := by
  match bs with
  | [] | [_] | _ :: _ :: _ => simp [takeWord]

theorem decodeRegisterPostbyte_ne_truncated (pb : Byte) : decodeRegisterPostbyte pb ≠ .error .truncated := by
  unfold decodeRegisterPostbyte
  split <;> simp

/-- What follows an indexed postbyte, whatever bytes that is: nothing, nothing because the postbyte is refused, one offset
byte, or two; `indexedExtra` is their number (30_encoding.md R90 to R103). -/
theorem decodeIndexed_cases (pb : Byte) :
    (indexedExtra pb = 0 ∧ ∃ ix, ∀ bs, decodeIndexed (pb :: bs) = .ok (ix, bs)) ∨
    (indexedExtra pb = 0 ∧ ∀ bs, decodeIndexed (pb :: bs) = .error .illegalIndexedPostbyte) ∨
    (indexedExtra pb = 1 ∧ ∃ k, ∀ bs, decodeIndexed (pb :: bs) = takeByte k bs) ∨
    (indexedExtra pb = 2 ∧ ∃ k, ∀ bs, decodeIndexed (pb :: bs) = takeWord k bs) := by
  simp only [decodeIndexed, indexedExtra]
  split
  case isFalse => exact .inl ⟨rfl, _, fun _ => rfl⟩
  case isTrue =>
    generalize (pb.extractLsb' 0 4).toNat = mode
    generalize pb.getLsbD 4 = ind
    match mode with
    | 0x0 | 0x2 => cases ind <;> [exact .inl ⟨rfl, _, fun _ => rfl⟩; exact .inr (.inl ⟨rfl, fun _ => rfl⟩)]
    | 0x1 | 0x3 | 0x4 | 0x5 | 0x6 | 0xB => exact .inl ⟨rfl, _, fun _ => rfl⟩
    | 0x8 | 0xC => exact .inr (.inr (.inl ⟨rfl, _, fun _ => rfl⟩))
    | 0x9 | 0xD => exact .inr (.inr (.inr ⟨rfl, _, fun _ => rfl⟩))
    | 0xF =>
      by_cases h : pb = 0x9F#8
      · exact .inr (.inr (.inr ⟨if_pos h, _, fun _ => if_pos h⟩))
      · exact .inr (.inl ⟨if_neg h, fun _ => if_neg h⟩)
    | 0x7 | 0xA | 0xE | _ + 16 => exact .inr (.inl ⟨rfl, fun _ => rfl⟩)

theorem decodeIndexed_truncated_iff (pb : Byte) (bs : List Byte) :
    decodeIndexed (pb :: bs) = .error .truncated ↔ bs.length < indexedExtra pb := by
  rcases decodeIndexed_cases pb with ⟨he, ix, h⟩ | ⟨he, h⟩ | ⟨he, k, h⟩ | ⟨he, k, h⟩ <;> rw [h, he]
  · simp
  · simp
  · exact takeByte_truncated_iff k bs
  · exact takeWord_truncated_iff k bs

theorem decodeShape_truncated_iff (sh : Shape) (bs : List Byte) :
    decodeShape sh bs = .error .truncated ↔ bs.length < operandBytes (some sh) bs := by
  cases sh with
  | inh i => simp [decodeShape, operandBytes]
  | imm8 k | dir k | rel8 k | stkpb k => exact takeByte_truncated_iff k bs
  | imm16 k | ext k | rel16 k => exact takeWord_truncated_iff k bs
  | idx k =>
    cases bs with
    | nil => simp [decodeShape, decodeIndexed, operandBytes]
    | cons pb bs =>
      have h := decodeIndexed_truncated_iff pb bs
      simp only [decodeShape, operandBytes, List.length_cons]
      split <;> simp_all <;> omega
  | regpb k =>
    cases bs with
    | nil => simp [decodeShape, operandBytes]
    | cons pb bs =>
      have h := decodeRegisterPostbyte_ne_truncated pb
      simp only [decodeShape, operandBytes, List.length_cons]
      split <;> simp_all

theorem decodeOpcode_truncated_iff (sh : Option Shape) (bs : List Byte) :
    decodeOpcode sh bs = .error .truncated ↔ bs.length < operandBytes sh bs := by
  cases sh with
  | none => simp [decodeOpcode, operandBytes]
  | some sh => exact decodeShape_truncated_iff sh bs

/-- The decoder finds its bytes too few exactly where `bytesNeeded` does (30_encoding.md R74). -/
theorem decode_truncated_iff (bs : List Byte) : decode bs = .error .truncated ↔ bs.length < bytesNeeded bs := by
  match bs with
  | [] => simp [decode, bytesNeeded]
  | [b] =>
    simp only [decode, bytesNeeded]
    split_ifs <;> simp [decodeSecond, decodeOpcode_truncated_iff]
  | b :: op :: bs =>
    simp only [decode, bytesNeeded, decodeSecond]
    split_ifs <;> rw [decodeOpcode_truncated_iff] <;> simp only [List.length_cons] <;> omega

theorem indexedExtra_le_two (pb : Byte) : indexedExtra pb ≤ 2 := by
  rcases decodeIndexed_cases pb with ⟨he, -⟩ | ⟨he, -⟩ | ⟨he, -⟩ | ⟨he, -⟩ <;> omega

theorem operandBytes_le_three (sh : Option Shape) (known : List Byte) : operandBytes sh known ≤ 3 := by
  match sh, known with
  | some (.idx _), pb :: _ => exact Nat.add_le_add_left (indexedExtra_le_two pb) 1
  | some (.idx _), [] | none, _ | some (.inh _), _ | some (.imm8 _), _ | some (.imm16 _), _ | some (.dir _), _
  | some (.ext _), _ | some (.rel8 _), _ | some (.rel16 _), _ | some (.regpb _), _ | some (.stkpb _), _ =>
    exact Nat.le_of_ble_eq_true rfl

/-- However few bytes are known, they never ask for more than the longest instruction has (30_encoding.md R70). -/
theorem bytesNeeded_le_maxInstrBytes (bs : List Byte) : bytesNeeded bs ≤ maxInstrBytes := by
  match bs with
  | [] => exact Nat.le_of_ble_eq_true rfl
  | [b] =>
    have := operandBytes_le_three (page1 b) []
    simp only [bytesNeeded, maxInstrBytes]
    split_ifs <;> omega
  | b :: op :: rest =>
    have := operandBytes_le_three (page1 b) (op :: rest)
    have := operandBytes_le_three (page2 op) rest
    have := operandBytes_le_three (page3 op) rest
    simp only [bytesNeeded, maxInstrBytes]
    split_ifs <;> omega

/-! ## Bytes after a whole instruction -/

/-- What was decoded, with `more` bytes after those left over. -/
def leaving {α : Type} (more : List Byte) (d : Except DecodeError (α × List Byte)) :
    Except DecodeError (α × List Byte) :=
  d.map fun p => (p.1, p.2 ++ more)

/-- A decoder that, once it has bytes enough, leaves whatever follows them alone. -/
def LeavesRest {α : Type} (f : List Byte → Except DecodeError (α × List Byte)) : Prop :=
  ∀ bs more, f bs ≠ .error .truncated → f (bs ++ more) = leaving more (f bs)

theorem takeByte_leavesRest {α : Type} (k : Byte → α) : LeavesRest (takeByte k)
  | [], _, h => absurd rfl h
  | _ :: _, _, _ => rfl

theorem takeWord_leavesRest {α : Type} (k : Word → α) : LeavesRest (takeWord k)
  | [], _, h | [_], _, h => absurd rfl h
  | _ :: _ :: _, _, _ => rfl

theorem decodeIndexed_leavesRest : LeavesRest decodeIndexed
  | [], _, h => absurd rfl h
  | pb :: bs, more, h => by
    rw [List.cons_append]
    rcases decodeIndexed_cases pb with ⟨-, ix, e⟩ | ⟨-, e⟩ | ⟨-, k, e⟩ | ⟨-, k, e⟩ <;> rw [e] at h <;> rw [e, e]
    · rfl
    · rfl
    · exact takeByte_leavesRest k bs more h
    · exact takeWord_leavesRest k bs more h

theorem decodeShape_leavesRest (sh : Shape) : LeavesRest (decodeShape sh) := by
  cases sh with
  | inh i => exact fun _ _ _ => rfl
  | imm8 k | dir k | rel8 k | stkpb k => exact takeByte_leavesRest k
  | imm16 k | ext k | rel16 k => exact takeWord_leavesRest k
  | idx k =>
    intro bs more h
    simp only [decodeShape] at h ⊢
    rw [decodeIndexed_leavesRest bs more fun e => h (by rw [e])]
    cases decodeIndexed bs <;> rfl
  | regpb k =>
    intro bs more h
    cases bs with
    | nil => exact absurd rfl h
    | cons pb bs =>
      simp only [decodeShape, List.cons_append]
      cases decodeRegisterPostbyte pb <;> rfl

theorem decodeOpcode_leavesRest (sh : Option Shape) : LeavesRest (decodeOpcode sh) := by
  cases sh with
  | none => exact fun _ _ _ => rfl
  | some sh => exact decodeShape_leavesRest sh

theorem decodeSecond_leavesRest (page : Byte → Option Shape) : LeavesRest (decodeSecond page)
  | [], _, h => absurd rfl h
  | op :: bs, more, h => decodeOpcode_leavesRest (page op) bs more h

/-- Bytes after a whole instruction do not change what is decoded (30_encoding.md R74). -/
theorem decode_leavesRest : LeavesRest decode
  | [], _, h => absurd rfl h
  | b :: bs, more, h => by
    simp only [decode, List.cons_append] at h ⊢
    split_ifs at h ⊢
    · exact decodeSecond_leavesRest page2 bs more h
    · exact decodeSecond_leavesRest page3 bs more h
    · exact decodeOpcode_leavesRest (page1 b) bs more h

/-- Bytes refused by name are refused by the same name from any beginning of them that is long enough. -/
theorem decode_eq_error_of_beginning {p bs : List Byte} {e : DecodeError} (hp : p <+: bs)
    (hlen : bytesNeeded p ≤ p.length) (hbs : decode bs = .error e) : decode p = .error e := by
  obtain ⟨more, rfl⟩ := hp
  have hne : decode p ≠ .error .truncated := fun h => absurd ((decode_truncated_iff p).1 h) (by omega)
  rw [decode_leavesRest p more hne] at hbs
  cases hd : decode p with
  | ok d => rw [hd] at hbs; exact absurd hbs (by simp [leaving, Except.map])
  | error e' => rw [hd] at hbs; exact hbs

end Sys2Proof
end

section
/-! SUPPORT. Every instruction the encoding can express completes, in a state that evolved from the one before
(`Evolves`, Sys2Proof/Laws/Evolution.lean); TFR and EXG of two sizes are refused (40_data_transfer.md R121, R122). -/

namespace Sys2Proof.Machine

/-- The outcome is a next state, and it evolved from `s`. -/
def Completes (s : State) (r : Result) : Prop := ∃ t, r = .next t ∧ Evolves s t

theorem Completes.next {s t : State} (h : Evolves s t) : Completes s (.next t) := ⟨t, rfl, h⟩

theorem Evolves.compare8 (s : State) (v m : Byte) : Evolves s (s.compare8 v m) := subtract8 s v m false

theorem Evolves.compare16 (s : State) (v m : Word) : Evolves s (s.compare16 v m) := setCC s _

/-- Registers of one size can be transferred and exchanged (40_data_transfer.md R121, R122). -/
theorem Evolves.transfer_completes (s : State) (r1 r2 : Reg) (h : r1.sameSize r2 = true) :
    Completes s (execExg r1 r2 s) ∧ Completes s (execTfr r1 r2 s) := by
  match r1, r2 with
  | .r16 p, .r16 q => exact ⟨.next ((setReg16 s p _).trans (setReg16 _ q _)), .next (setReg16 s q _)⟩
  | .r8 p, .r8 q => exact ⟨.next ((setReg8 s p _).trans (setReg8 _ q _)), .next (setReg8 s q _)⟩

/-- Every well-formed instruction completes: its operand is obtained, then its own operation is done. -/
theorem Evolves.exec_completes (i : Instr) (s : State) (h : i.wellFormed = true) : Completes s (exec i s) := by
  cases i with
  | exg r1 r2 => exact (transfer_completes s r1 r2 h).1
  | tfr r1 r2 => exact (transfer_completes s r1 r2 h).2
  | lda op => exact .next (((operand8 s op).trans (setA _ _)).trans (setLogicFlags8 _ _))
  | ldb op => exact .next (((operand8 s op).trans (setB _ _)).trans (setLogicFlags8 _ _))
  | ldd op => exact .next (((operand16 s op).trans (setD _ _)).trans (setLogicFlags16 _ _))
  | ldx op => exact .next (((operand16 s op).trans (setX _ _)).trans (setLogicFlags16 _ _))
  | ldy op => exact .next (((operand16 s op).trans (setY _ _)).trans (setLogicFlags16 _ _))
  | ldu op => exact .next (((operand16 s op).trans (setU _ _)).trans (setLogicFlags16 _ _))
  | lds op => exact .next (((operand16 s op).trans (loadS _ true _)).trans (setLogicFlags16 _ _))
  | sta m | stb m => exact .next ((resolveEA s m).trans (store8 _ _ _))
  | std m | stx m | sty m | stu m | sts m => exact .next ((resolveEA s m).trans (store16 _ _ _))
  | pshs pb | pshu pb => exact .next (pushRegisters s _ pb)
  | puls pb | pulu pb => exact .next (pullRegisters s _ pb)
  | adda op | addb op | adca op | adcb op => exact .next ((operand8 s op).trans (addAcc _ _ _ _))
  | suba op | subb op | sbca op | sbcb op => exact .next ((operand8 s op).trans (subAcc _ _ _ _))
  | addd op | subd op => exact .next (((operand16 s op).trans (setD _ _)).trans (setCC _ _))
  | abx => exact .next (setX s _)
  | daa => exact .next (((undefinedBit s .v).trans (setA _ _)).trans (setCC _ _))
  | mul => exact .next ((setD s _).trans (setCC _ _))
  | sex => exact .next ((setA s _).trans (setCC _ _))
  | anda op | andb op | eora op | eorb op | ora op | orb op => exact .next ((operand8 s op).trans (logicAcc _ _ _))
  | andcc v | orcc v => exact .next (setCC s _)
  | asra | asrb => exact .next (modifyAcc s _ _ asrValue)
  | asla | aslb => exact .next (modifyAcc s _ _ aslValue)
  | nega | negb => exact .next (modifyAcc s _ _ fun t v => subtract8 t _ v _)
  | lsra | lsrb | rola | rolb | rora | rorb | clra | clrb | deca | decb | inca | incb | coma | comb =>
    exact .next (modifyAcc s _ _ fun t _ => setCC t _)
  | asr m => exact .next (modifyMemory s m _ asrValue)
  | asl m => exact .next (modifyMemory s m _ aslValue)
  | neg m => exact .next (modifyMemory s m _ fun t v => subtract8 t _ v _)
  | lsr m | rol m | ror m | clr m | dec m | inc m | com m => exact .next (modifyMemory s m _ fun t _ => setCC t _)
  | nop => exact .next (refl s)
  | bita op | bitb op => exact .next ((operand8 s op).trans (setLogicFlags8 _ _))
  | cmpa op | cmpb op => exact .next ((operand8 s op).trans (compare8 _ _ _))
  | cmpd op | cmpx op | cmpy op | cmpu op | cmps op => exact .next ((operand16 s op).trans (compare16 _ _ _))
  | tsta | tstb => exact .next (setLogicFlags8 s _)
  | tst m => exact .next (((resolveEA s m).trans (readByte _ _)).trans (setLogicFlags8 _ _))
  | bra r | brn r | bhi r | bls r | bcc r | bcs r | bne r | beq r | bvc r | bvs r | bpl r | bmi r | bge r | blt r
  | bgt r | ble r | lbra r | lbrn r | lbhi r | lbls r | lbcc r | lbcs r | lbne r | lbeq r | lbvc r | lbvs r | lbpl r
  | lbmi r | lbge r | lblt r | lbgt r | lble r => exact .next (branch s _ _)
  | jmp m => exact .next ((resolveEA s m).trans (setPC _ _))
  | jsr m => exact .next ((resolveEA s m).trans (call _ _))
  | bsr r | lbsr r => exact .next (call s _)
  | rts => exact .next ((pull16 s .s).trans (setPC _ _))
  | leax ix => exact .next (((indexedEA s ix).trans (setX _ _)).trans (setCC _ _))
  | leay ix => exact .next (((indexedEA s ix).trans (setY _ _)).trans (setCC _ _))
  | leas ix => exact .next ((indexedEA s ix).trans (loadS _ false _))
  | leau ix => exact .next ((indexedEA s ix).trans (setU _ _))
  | cwai v => exact .next (((setCC s _).trans (pushEntire _)).trans (setWait _ _))
  | sync => exact .next (setWait s _)
  | rti => exact .next (returnFromException s)
  | swi | swi2 | swi3 => exact .next (takeException s _)

/-- Only TFR and EXG of two sizes are not well-formed, and these are refused (40_data_transfer.md R121, R122). -/
theorem exec_of_not_wellFormed (i : Instr) (s : State) (h : i.wellFormed = false) :
    exec i s = .refused .illegalRegisterPostbyte := by
  cases i with
  | exg r1 r2 | tfr r1 r2 =>
    match r1, r2 with
    | .r16 _, .r8 _ | .r8 _, .r16 _ => rfl
  | _ => exact Bool.noConfusion h

theorem exec_completes_or_refused (i : Instr) (s : State) :
    Completes s (exec i s) ∨ exec i s = .refused .illegalRegisterPostbyte := by
  cases h : i.wellFormed with
  | true => exact .inl (Evolves.exec_completes i s h)
  | false => exact .inr (exec_of_not_wellFormed i s h)

end Sys2Proof.Machine
end

section
/-! SUPPORT. The fetch: it stops with a whole instruction, and never reads past one that is there
(30_encoding.md R71, R74). -/

namespace Sys2Proof.Machine

theorem State.fetchMore_isWhole (n : Nat) : ∀ (s : State) (bs : List Byte), maxInstrBytes ≤ bs.length + n →
    bytesNeeded (s.fetchMore n bs).1 ≤ (s.fetchMore n bs).1.length := by
  induction n with
  | zero => exact fun _ bs h => (bytesNeeded_le_maxInstrBytes bs).trans h
  | succ n ih =>
    intro s bs h
    unfold State.fetchMore
    split
    · exact ih _ _ (by rw [List.length_append, List.length_singleton]; omega)
    · exact Nat.le_of_not_lt ‹_›

/-- The fetch stops with as many bytes as the instruction has (30_encoding.md R71). -/
theorem State.fetch_isWhole (s : State) : bytesNeeded s.fetch.1 ≤ s.fetch.1.length :=
  s.fetchMore_isWhole maxInstrBytes [] (Nat.le_refl _)

theorem State.decode_fetch_ne_truncated (s : State) : decode s.fetch.1 ≠ .error .truncated := by
  rw [Ne, decode_truncated_iff, Nat.not_lt]
  exact s.fetch_isWhole

/-- Which bytes stand where depends on memory and its map alone. -/
theorem State.holdsBytes_congr {s t : State} (hmem : t.mem = s.mem) (hmap : t.memMap = s.memMap) (bs : List Byte) :
    ∀ a, t.holdsBytes a bs ↔ s.holdsBytes a bs := by
  induction bs with
  | nil => exact fun _ => Iff.rfl
  | cons v bs ih => intro a; simp only [State.holdsBytes, State.kindAt, State.byteAt, hmem, hmap, ih]

@[simp] theorem State.setPC_holdsBytes (s : State) (v a : Word) (bs : List Byte) :
    (s.setPC v).holdsBytes a bs ↔ s.holdsBytes a bs := State.holdsBytes_congr (s := s) (t := s.setPC v) rfl rfl bs a

@[simp] theorem State.tickInputs_holdsBytes (s : State) (a : Word) (bs : List Byte) :
    s.tickInputs.holdsBytes a bs ↔ s.holdsBytes a bs := State.holdsBytes_congr (s := s) (t := s.tickInputs) rfl rfl bs a

/-- Where bytes that hold a whole instruction are in RAM or ROM from PC on, the fetch gives a beginning of them. -/
theorem State.fetchMore_beginning (n : Nat) : ∀ (s : State) (bs more : List Byte), s.holdsBytes s.pc more →
    bytesNeeded (bs ++ more) ≤ (bs ++ more).length → (s.fetchMore n bs).1 <+: bs ++ more := by
  induction n with
  | zero => exact fun _ _ more _ _ => ⟨more, rfl⟩
  | succ n ih =>
    intro s bs more hold hlen
    unfold State.fetchMore
    split
    next hshort =>
      match more, hold with
      | [], _ => rw [List.append_nil] at hlen; omega
      | v :: more, ⟨hkind, hv, hold⟩ =>
        rw [State.fetchByte, s.readByte_of_content s.pc hkind, hv, List.append_cons]
        exact ih (s.setPC (s.pc + 1#16)) (bs ++ [v]) more ((s.setPC_holdsBytes _ _ more).2 hold)
          (by rwa [← List.append_cons])
    next => exact ⟨more, rfl⟩

theorem State.fetch_beginning (s : State) (bs : List Byte) (hold : s.holdsBytes s.pc bs)
    (hlen : bytesNeeded bs ≤ bs.length) : s.fetch.1 <+: bs :=
  s.fetchMore_beginning maxInstrBytes [] bs hold hlen

theorem State.executeAtPC_of_ok {s : State} {i : Instr} {rest : List Byte} (h : decode s.fetch.1 = .ok (i, rest)) :
    s.executeAtPC = exec i s.fetch.2 := by
  simp only [State.executeAtPC, h]

theorem State.executeAtPC_of_error {s : State} {e : DecodeError} (h : decode s.fetch.1 = .error e) :
    s.executeAtPC = .refused (refusalOf e) := by
  simp only [State.executeAtPC, h]

/-- The instruction at PC completes, or its bytes are refused by the name the decoder gives, which is one of the three of
00_scope.md R14. -/
theorem State.executeAtPC_completes_or_refused (s : State) :
    Completes s s.executeAtPC ∨ s.executeAtPC = .refused .illegalOpcode ∨
      s.executeAtPC = .refused .illegalIndexedPostbyte ∨ s.executeAtPC = .refused .illegalRegisterPostbyte := by
  cases h : decode s.fetch.1 with
  | ok d =>
    rw [State.executeAtPC_of_ok h]
    rcases exec_completes_or_refused d.1 s.fetch.2 with ⟨t, ht, hev⟩ | hr
    · exact .inl ⟨t, ht, (Evolves.fetch s).trans hev⟩
    · exact .inr (.inr (.inr hr))
  | error e =>
    rw [State.executeAtPC_of_error h]
    cases e with
    | illegalOpcode => exact .inr (.inl rfl)
    | illegalIndexedPostbyte => exact .inr (.inr (.inl rfl))
    | illegalRegisterPostbyte => exact .inr (.inr (.inr rfl))
    | truncated => exact absurd h s.decode_fetch_ne_truncated

theorem Evolves.of_executeAtPC {s t : State} (h : s.executeAtPC = .next t) : Evolves s t := by
  rcases s.executeAtPC_completes_or_refused with ⟨u, hu, hev⟩ | hr | hr | hr
  · cases h.symm.trans hu
    exact hev
  all_goals exact nomatch h.symm.trans hr

end Sys2Proof.Machine
end

section
/-! SUPPORT. What one step can do (60_exceptions.md R333, R334), and what all of it keeps. -/

namespace Sys2Proof.Machine

/-- The state at the boundary of a step: the inputs are used up, and the NMI latch is set if they say so. -/
def State.latched (s : State) : State := s.tickInputs.latchNmi s.inputs

/-- The ways one step can go: reset, waiting on, an interrupt out of a running or a SYNC state, an interrupt that ends
CWAI, and the instruction at PC, executed by a machine that runs or that SYNC lets go on (60_exceptions.md R333, R334). -/
inductive StepOutcome (s : State) : Result → Prop where
  | reset (hreset : s.inputs.resetLow = true) : StepOutcome s (.next s.tickInputs.takeReset)
  | wait (hreset : s.inputs.resetLow = false) (hwait : s.waitState ≠ .running) : StepOutcome s (.next s.latched)
  | interrupt (ev : Event) (hreset : s.inputs.resetLow = false) (hwait : s.waitState ≠ .cwaiWait)
      (hev : s.latched.pendingInterrupt s.inputs = some ev) :
      StepOutcome s (.next ((s.latched.setWait .running).takeInterrupt ev))
  | release (ev : Event) (hreset : s.inputs.resetLow = false) (hwait : s.waitState = .cwaiWait)
      (hev : s.latched.pendingInterrupt s.inputs = some ev) : StepOutcome s (.next (s.latched.releaseCwai ev))
  | execute (hreset : s.inputs.resetLow = false) (hwait : s.waitState ≠ .cwaiWait)
      (hev : s.latched.pendingInterrupt s.inputs = none) :
      StepOutcome s (s.latched.setWait .running).executeAtPC

@[simp] theorem State.latchNmi_waitState (s : State) (inp : Inputs) : (s.latchNmi inp).waitState = s.waitState := by
  unfold State.latchNmi; split <;> rfl

@[simp] theorem State.latched_waitState (s : State) : s.latched.waitState = s.waitState :=
  s.tickInputs.latchNmi_waitState s.inputs

theorem State.setWait_of_eq {s : State} {w : WaitState} (h : s.waitState = w) : s.setWait w = s := by
  subst h; rfl

/-- The step of the machine that runs, or that SYNC lets go on. -/
theorem StepOutcome.of_runningStep {s : State} (hreset : s.inputs.resetLow = false) (hwait : s.waitState ≠ .cwaiWait) :
    StepOutcome s ((s.latched.setWait .running).runningStep s.inputs) := by
  have hpend : (s.latched.setWait .running).pendingInterrupt s.inputs = s.latched.pendingInterrupt s.inputs := rfl
  unfold State.runningStep
  rw [hpend]
  cases hev : s.latched.pendingInterrupt s.inputs with
  | some ev => exact .interrupt ev hreset hwait hev
  | none => exact .execute hreset hwait hev

/-- Every step goes one of these ways. -/
theorem step_outcome (s : State) : StepOutcome s (step s) := by
  unfold step State.stepWith
  split
  next hreset => exact .reset hreset
  next hreset =>
    replace hreset := Bool.eq_false_of_not_eq_true hreset
    dsimp only
    rw [← State.latched, s.latched_waitState]
    cases hw : s.waitState with
    | running =>
      have := StepOutcome.of_runningStep hreset (by rw [hw]; decide)
      rwa [State.setWait_of_eq (s.latched_waitState.trans hw)] at this
    | syncWait =>
      dsimp only [State.syncStep]
      split
      · exact .of_runningStep hreset (by rw [hw]; decide)
      · exact .wait hreset (by rw [hw]; decide)
    | cwaiWait =>
      dsimp only [State.cwaiStep]
      cases hev : s.latched.pendingInterrupt s.inputs with
      | some ev => exact .release ev hreset hw hev
      | none => exact .wait hreset (by rw [hw]; decide)

theorem State.latched_eq_tickInputs (s : State) : s.latched = (s.latchNmi s.inputs).tickInputs := by
  unfold State.latched State.latchNmi
  rw [State.tickInputs_nmiArmed]
  split <;> rfl

/-- An interrupt the latch lets through is pending, so where none is pending the latch did nothing. -/
theorem State.latchNmi_of_pendingInterrupt_none {s : State} {inp : Inputs}
    (h : (s.latchNmi inp).pendingInterrupt inp = none) : s.latchNmi inp = s := by
  unfold State.latchNmi at h ⊢
  split at h
  · exact nomatch h
  · exact if_neg ‹_›

/-- An undisturbed step is the instruction at PC (60_exceptions.md R333). -/
theorem step_of_undisturbed {s : State} (h : s.undisturbed) : step s = s.tickInputs.executeAtPC := by
  obtain ⟨hrun, hreset, hnone⟩ := h
  have hlatched : s.latched = s.tickInputs := by
    rw [State.latched_eq_tickInputs, State.latchNmi_of_pendingInterrupt_none hnone]
  have hpend : s.latched.pendingInterrupt s.inputs = none := by
    rw [State.latched_eq_tickInputs]; exact hnone
  have out := step_outcome s
  generalize step s = r at out ⊢
  cases out with
  | reset hr => exact absurd (hreset.symm.trans hr) (by decide)
  | wait _ hw => exact absurd hrun hw
  | interrupt ev _ _ hev => exact absurd (hpend.symm.trans hev) (by simp)
  | release ev _ hw _ => exact absurd (hrun.symm.trans hw) (by decide)
  | execute _ _ _ => rw [hlatched, State.setWait_of_eq (s := s.tickInputs) hrun]

/-! ## What every step keeps -/

/-- The platform is the same: the map, the two parameters, and the content of every address that is not RAM, memory
staying in its canonical form. Unlike `Evolves` it says nothing of the NMI latch and of the inputs. -/
structure KeepsPlatform (s t : State) : Prop where
  memMap : t.memMap = s.memMap
  nmiArming : t.nmiArming = s.nmiArming
  undefinedFlag : t.undefinedFlag = s.undefinedFlag
  wf : s.mem.wf = true → t.mem.wf = true
  content : s.mem.wf = true → ∀ a, s.kindAt a ≠ .ram → t.byteAt a = s.byteAt a

namespace KeepsPlatform

theorem of_evolves {s t : State} (h : Evolves s t) : KeepsPlatform s t :=
  ⟨h.memMap, h.nmiArming, h.undefinedFlag, h.wf, h.content⟩

theorem of_mem {s t : State} (hmap : t.memMap = s.memMap) (harm : t.nmiArming = s.nmiArming)
    (hflag : t.undefinedFlag = s.undefinedFlag) (hmem : t.mem = s.mem) : KeepsPlatform s t :=
  ⟨hmap, harm, hflag, fun h => hmem ▸ h, fun _ a _ => by simp only [State.byteAt, hmem]⟩

theorem trans {s t u : State} (h1 : KeepsPlatform s t) (h2 : KeepsPlatform t u) : KeepsPlatform s u where
  memMap := h2.memMap.trans h1.memMap
  nmiArming := h2.nmiArming.trans h1.nmiArming
  undefinedFlag := h2.undefinedFlag.trans h1.undefinedFlag
  wf h := h2.wf (h1.wf h)
  content h a ha := by
    rw [h2.content (h1.wf h) a (by simpa only [State.kindAt, h1.memMap] using ha), h1.content h a ha]

theorem takeReset (s : State) : KeepsPlatform s s.takeReset :=
  (of_mem (s := s) (t := s.resetRegisters) rfl rfl rfl rfl).trans
    (of_evolves ((Evolves.readWord _ 0xFFFE#16).trans (Evolves.setPC _ _)))

theorem latched (s : State) : KeepsPlatform s s.latched := by
  unfold State.latched State.latchNmi
  split <;> exact of_mem rfl rfl rfl rfl

theorem acknowledge (s : State) (ev : Event) : KeepsPlatform s (s.acknowledge ev) := by
  unfold State.acknowledge
  split <;> exact of_mem rfl rfl rfl rfl

theorem takeInterrupt (s : State) (ev : Event) : KeepsPlatform s (s.takeInterrupt ev) :=
  (acknowledge s ev).trans (of_evolves ((Evolves.takeException _ ev).trans (Evolves.setWait _ _)))

theorem releaseCwai (s : State) (ev : Event) : KeepsPlatform s (s.releaseCwai ev) :=
  (acknowledge s ev).trans (of_evolves ((Evolves.enterVector _ ev).trans (Evolves.setWait _ _)))

/-- Every step keeps the platform. -/
theorem of_step {s t : State} (h : step s = .next t) : KeepsPlatform s t := by
  have out : StepOutcome s (.next t) := h ▸ step_outcome s
  generalize hr : (Host.Outcome.next t : Result) = r at out
  cases out with
  | reset _ => cases hr; exact (of_mem (s := s) (t := s.tickInputs) rfl rfl rfl rfl).trans (takeReset _)
  | wait _ _ => cases hr; exact latched s
  | interrupt ev _ _ _ => cases hr; exact ((latched s).trans (of_evolves (Evolves.setWait _ _))).trans (takeInterrupt _ ev)
  | release ev _ _ _ => cases hr; exact (latched s).trans (releaseCwai _ ev)
  | execute _ _ _ =>
    exact (latched s).trans (of_evolves ((Evolves.setWait _ _).trans (Evolves.of_executeAtPC hr.symm)))

end KeepsPlatform

end Sys2Proof.Machine
end

section
/-! SUPPORT. The scope of the model (00_scope.md): a step completes or is refused by name, and the platform stays. -/

namespace Sys2Proof

open Machine

/-- Settles O15: by the ways a step can go, each of which keeps the platform. -/
theorem romMapAndParametersNeverChange : Obligations.RomMapAndParametersNeverChange := by
  intro s t ⟨hwf, _⟩ hstep
  have hkeeps := KeepsPlatform.of_step hstep
  exact ⟨hkeeps.memMap, hkeeps.nmiArming, hkeeps.undefinedFlag, hkeeps.content hwf⟩

/-- Settles O10: the fetch gives a beginning of the bytes at PC that is long enough, and the decoder refuses that by the
same name. -/
theorem illegalBytesAreRefusedByTheStep : Obligations.IllegalBytesAreRefusedByTheStep := by
  intro s bs e hund hold hdec hne
  have hlen : bytesNeeded bs ≤ bs.length := by
    rw [← Nat.not_lt, ← decode_truncated_iff, hdec]
    exact fun h => hne (Except.error.inj h)
  have hold' : s.tickInputs.holdsBytes s.tickInputs.pc bs := (s.tickInputs_holdsBytes s.pc bs).2 hold
  have hfetch : decode s.tickInputs.fetch.1 = .error e :=
    decode_eq_error_of_beginning (s.tickInputs.fetch_beginning bs hold' hlen) s.tickInputs.fetch_isWhole hdec
  rw [step_of_undisturbed hund, State.executeAtPC_of_error hfetch]

/-- Settles O11: reset, waiting and interrupts always complete, and the instruction at PC completes or is refused by one
of the three names. -/
theorem everyStepCompletesOrIsRefusedByName : Obligations.EveryStepCompletesOrIsRefusedByName := by
  intro s
  have out := step_outcome s
  generalize step s = r at out ⊢
  cases out with
  | reset _ | wait _ _ | interrupt _ _ _ _ | release _ _ _ _ => exact .inl ⟨_, rfl⟩
  | execute _ _ _ =>
    exact (State.executeAtPC_completes_or_refused _).imp_left fun ⟨t, ht, _⟩ => ⟨t, ht⟩

end Sys2Proof
end

section
/-! SUPPORT. Decoding what the encoder writes gives back the instruction (30_encoding.md R70 to R107): first the postbytes,
then the operands under their opcodes, then every instruction. -/

namespace Sys2Proof

open Machine Claims

/-! ## Postbytes -/

theorem IndexReg.ofCode_code (r : IndexReg) : IndexReg.ofCode r.code = r := by
  cases r <;> rfl

theorem Reg.ofCode_code (r : Reg) : Reg.ofCode r.code = some r := by
  match r with
  | .r16 r => cases r <;> rfl
  | .r8 r => cases r <;> rfl

/-- The two codes of a register postbyte (30_encoding.md R83). -/
theorem registerPostbyte_fields (r1 r2 : Reg) :
    (registerPostbyte r1 r2).extractLsb' 4 4 = r1.code ∧ (registerPostbyte r1 r2).extractLsb' 0 4 = r2.code :=
  ⟨BitVec.extractLsb'_append_eq_left, BitVec.extractLsb'_append_eq_right⟩

theorem decodeRegisterPostbyte_registerPostbyte {r1 r2 : Reg} (h : r1.sameSize r2 = true) :
    decodeRegisterPostbyte (registerPostbyte r1 r2) = .ok (r1, r2) := by
  obtain ⟨h1, h2⟩ := registerPostbyte_fields r1 r2
  unfold decodeRegisterPostbyte
  rw [h1, h2, Reg.ofCode_code, Reg.ofCode_code]
  match r1, r2 with
  | .r16 _, .r16 _ | .r8 _, .r8 _ => rfl

/-- The fields `1 RR i mmmm` of an indexed postbyte (30_encoding.md R88). -/
theorem longPostbyte_fields (r : BitVec 2) (ind : Bool) (mode : BitVec 4) :
    (longPostbyte r ind mode).getLsbD 7 = true ∧ (longPostbyte r ind mode).extractLsb' 5 2 = r ∧
      (longPostbyte r ind mode).getLsbD 4 = ind ∧ (longPostbyte r ind mode).extractLsb' 0 4 = mode := by
  revert r ind mode; decide

/-- The fields `0 RR nnnnn` of an indexed postbyte (30_encoding.md R88). -/
theorem shortPostbyte_fields (r : BitVec 2) (n : BitVec 5) :
    (0#1 ++ r ++ n).getLsbD 7 = false ∧ (0#1 ++ r ++ n).extractLsb' 5 2 = r ∧ (0#1 ++ r ++ n).extractLsb' 0 5 = n := by
  revert r n; decide

theorem decodeIndexed_encodeIndexed (ix : Indexed) (rest : List Byte) :
    decodeIndexed (encodeIndexed ix ++ rest) = .ok (ix, rest) := by
  cases ix with
  | off5 r n =>
    obtain ⟨hlong, hreg, hoff⟩ := shortPostbyte_fields r.code n
    simp only [encodeIndexed, List.cons_append, List.nil_append, decodeIndexed, hlong, hreg, hoff,
      IndexReg.ofCode_code, Bool.false_eq_true, if_false]
  | extInd addr => simp [encodeIndexed, decodeIndexed, takeWord]
  | inc1 r | dec1 r | inc2 r ind | dec2 r ind | off0 r ind | accA r ind | accB r ind | accD r ind
  | off8 r n ind | off16 r n ind | pcr8 n ind | pcr16 n ind =>
    simp only [encodeIndexed, List.cons_append, List.nil_append, decodeIndexed, longPostbyte_fields,
      IndexReg.ofCode_code, takeByte, takeWord, joinBytes_highByte_lowByte, if_true, Bool.false_eq_true, if_false]
    rfl

/-! ## Operands under their opcodes -/

/-- After the page byte `page`, if there is one, the opcode `op` announces an operand of the format `sh`. -/
def OpcodeReads (page : List Byte) (op : Byte) (sh : Shape) : Prop :=
  ∀ bs, decode (page ++ op :: bs) = decodeShape sh bs

section

variable {page : List Byte} {op dir idx ext : Byte}

theorem decodesTo_byte (k : Byte → Instr) (h : ∀ bs, decode (page ++ op :: bs) = takeByte k bs) (v : Byte) :
    decodesTo (page ++ [op, v]) (k v) := by
  intro rest
  rw [List.append_assoc]
  exact h (v :: rest)

theorem decodesTo_word (k : Word → Instr) (h : ∀ bs, decode (page ++ op :: bs) = takeWord k bs) (v : Word) :
    decodesTo (page ++ [op, highByte v, lowByte v]) (k v) := by
  intro rest
  rw [List.append_assoc]
  refine (h (highByte v :: lowByte v :: rest)).trans ?_
  rw [takeWord, joinBytes_highByte_lowByte]

theorem decodesTo_indexed {k : Indexed → Instr} (h : OpcodeReads page op (.idx k)) (ix : Indexed) :
    decodesTo (page ++ op :: encodeIndexed ix) (k ix) := by
  intro rest
  rw [List.append_assoc]
  refine (h (encodeIndexed ix ++ rest)).trans ?_
  rw [decodeShape, decodeIndexed_encodeIndexed]

theorem decodesTo_registers {k : Reg → Reg → Instr} (h : OpcodeReads page op (.regpb k)) {r1 r2 : Reg}
    (hsize : r1.sameSize r2 = true) : decodesTo (page ++ [op, registerPostbyte r1 r2]) (k r1 r2) := by
  intro rest
  rw [List.append_assoc]
  refine (h (registerPostbyte r1 r2 :: rest)).trans ?_
  rw [decodeShape, decodeRegisterPostbyte_registerPostbyte hsize]

theorem decodesTo_encodeMem {k : MemOperand → Instr} (hdir : OpcodeReads page dir (dirShape k))
    (hidx : OpcodeReads page idx (idxShape k)) (hext : OpcodeReads page ext (extShape k)) (m : MemOperand) :
    decodesTo (encodeMem page dir idx ext m) (k m) := by
  cases m with
  | dir off => exact decodesTo_byte (fun v => k (.dir v)) hdir off
  | ext addr => exact decodesTo_word (fun v => k (.ext v)) hext addr
  | idx ix => exact decodesTo_indexed hidx ix

theorem decodesTo_encodeOp8 {k : Operand8 → Instr} (himm : OpcodeReads page op (.imm8 fun v => k (.imm v)))
    (hdir : OpcodeReads page (op + 0x10#8) (dirShape fun m => k (.mem m)))
    (hidx : OpcodeReads page (op + 0x20#8) (idxShape fun m => k (.mem m)))
    (hext : OpcodeReads page (op + 0x30#8) (extShape fun m => k (.mem m))) (o : Operand8) :
    decodesTo (encodeOp8 page op o) (k o) := by
  cases o with
  | imm v => exact decodesTo_byte (fun v => k (.imm v)) himm v
  | mem m => exact decodesTo_encodeMem hdir hidx hext m

theorem decodesTo_encodeOp16 {k : Operand16 → Instr} (himm : OpcodeReads page op (.imm16 fun v => k (.imm v)))
    (hdir : OpcodeReads page (op + 0x10#8) (dirShape fun m => k (.mem m)))
    (hidx : OpcodeReads page (op + 0x20#8) (idxShape fun m => k (.mem m)))
    (hext : OpcodeReads page (op + 0x30#8) (extShape fun m => k (.mem m))) (o : Operand16) :
    decodesTo (encodeOp16 page op o) (k o) := by
  cases o with
  | imm v => exact decodesTo_word (fun v => k (.imm v)) himm v
  | mem m => exact decodesTo_encodeMem hdir hidx hext m

end

/-! ## Every instruction -/

/-- Decoding what the encoder writes gives back the instruction, whatever follows; each opcode's table entry is read off
the decoder's tables. -/
theorem decodesTo_encode (i : Instr) (h : i.wellFormed = true) : decodesTo (encode i) i := by
  cases i with
  | exg r1 r2 | tfr r1 r2 => exact decodesTo_registers (page := []) (fun _ => rfl) h
  | lda op | ldb op | adda op | addb op | adca op | adcb op | suba op | subb op | sbca op | sbcb op | anda op | andb op
  | eora op | eorb op | ora op | orb op | bita op | bitb op | cmpa op | cmpb op =>
    exact decodesTo_encodeOp8 (fun _ => rfl) (fun _ => rfl) (fun _ => rfl) (fun _ => rfl) op
  | ldd op | ldx op | ldy op | ldu op | lds op | addd op | subd op | cmpd op | cmpx op | cmpy op | cmpu op | cmps op =>
    exact decodesTo_encodeOp16 (fun _ => rfl) (fun _ => rfl) (fun _ => rfl) (fun _ => rfl) op
  | sta m | stb m | std m | stx m | sty m | stu m | sts m | asr m | asl m | lsr m | rol m | ror m | clr m | dec m | inc m
  | com m | neg m | tst m | jmp m | jsr m =>
    exact decodesTo_encodeMem (fun _ => rfl) (fun _ => rfl) (fun _ => rfl) m
  | leax ix | leay ix | leas ix | leau ix => exact decodesTo_indexed (page := []) (fun _ => rfl) ix
  | pshs v | pshu v | puls v | pulu v | andcc v | orcc v | cwai v | bra v | brn v | bhi v | bls v | bcc v | bcs v | bne v
  | beq v | bvc v | bvs v | bpl v | bmi v | bge v | blt v | bgt v | ble v | bsr v => exact fun _ => rfl
  | lbra v | lbsr v => exact decodesTo_word (page := []) _ (fun _ => rfl) v
  | lbrn v | lbhi v | lbls v | lbcc v | lbcs v | lbne v | lbeq v | lbvc v | lbvs v | lbpl v | lbmi v | lbge v | lblt v
  | lbgt v | lble v => exact decodesTo_word (page := [0x10#8]) _ (fun _ => rfl) v
  | abx | daa | mul | sex | asra | asrb | asla | aslb | lsra | lsrb | rola | rolb | rora | rorb | clra | clrb | deca | decb
  | inca | incb | coma | comb | nega | negb | nop | tsta | tstb | rts | sync | rti | swi | swi2 | swi3 =>
    exact fun _ => rfl

end Sys2Proof
end

section
/-! SUPPORT. The bytes of the fetch (10_state.md R27, 30_encoding.md R71, R74): they are single reads at ascending addresses
from PC, and where an encoding lies there in RAM or ROM they are that encoding. -/

namespace Sys2Proof

open Machine

theorem bytesNeeded_pos (bs : List Byte) : 1 ≤ bytesNeeded bs := by
  match bs with
  | [] => exact Nat.le_refl 1
  | [b] => simp only [bytesNeeded]; split_ifs <;> omega
  | b :: op :: rest => simp only [bytesNeeded]; split_ifs <;> omega

/-- A beginning of an instruction's bytes that is long enough is all of them (30_encoding.md R74). -/
theorem eq_of_beginning_of_decode {p bs : List Byte} {i : Instr} (hp : p <+: bs) (hlen : bytesNeeded p ≤ p.length)
    (hbs : decode bs = .ok (i, [])) : p = bs := by
  obtain ⟨more, rfl⟩ := hp
  have hne : decode p ≠ .error .truncated := fun h => absurd ((decode_truncated_iff p).1 h) (by omega)
  rw [decode_leavesRest p more hne] at hbs
  cases hd : decode p with
  | error e => rw [hd] at hbs; exact nomatch hbs
  | ok d =>
    rw [hd] at hbs
    have hrest : d.2 ++ more = [] := congrArg Prod.snd (Except.ok.inj hbs)
    rw [(List.append_eq_nil_iff.1 hrest).2, List.append_nil]

theorem decode_encode {i : Instr} (h : i.wellFormed = true) : decode (encode i) = .ok (i, []) := by
  simpa only [List.append_nil] using decodesTo_encode i h []

theorem bytesNeeded_encode_le {i : Instr} (h : i.wellFormed = true) : bytesNeeded (encode i) ≤ (encode i).length := by
  rw [← Nat.not_lt, ← decode_truncated_iff, decode_encode h]
  exact nofun

end Sys2Proof

namespace Sys2Proof.Machine

/-! ## Reads in a row -/

theorem State.readByte_setPC (s : State) (a v : Word) :
    (s.setPC v).readByte a = ((s.readByte a).1, (s.readByte a).2.setPC v) := by
  unfold State.readByte
  rw [State.setPC_kindAt]
  split <;> rfl

theorem State.readBytes_setPC (n : Nat) (v : Word) : ∀ (s : State) (a : Word),
    (s.setPC v).readBytes a n = ((s.readBytes a n).1, (s.readBytes a n).2.setPC v) := by
  induction n with
  | zero => exact fun _ _ => rfl
  | succ n ih => intro s a; simp only [State.readBytes, State.readByte_setPC, ih]

theorem State.readBytes_changes (n : Nat) : ∀ (s : State) (a : Word),
    changesOnly [.devices, .draws] s (s.readBytes a n).2 := by
  induction n with
  | zero => exact fun s _ => (changesOnly_refl s).mono (by simp)
  | succ n ih => exact fun s a => (s.readByte_changes a).then (ih _ (a + 1#16)) (by simp)

/-- Reads of RAM and ROM give the bytes that are there and have no effect (20_memory.md R54). -/
theorem State.readBytes_of_holdsBytes {s : State} (bs : List Byte) : ∀ {a : Word}, s.holdsBytes a bs →
    s.readBytes a bs.length = (bs, s) := by
  induction bs with
  | nil => exact fun _ => rfl
  | cons v bs ih =>
    intro a ⟨hkind, hv, hold⟩
    simp only [List.length_cons, State.readBytes, s.readByte_of_content a hkind, hv, ih hold]

/-! ## The fetch -/

theorem State.fetchByte_eq (s : State) :
    s.fetchByte = ((s.readByte s.pc).1, (s.readByte s.pc).2.setPC (s.pc + 1#16)) := by
  simp only [State.fetchByte, State.readByte_pc]

/-- The fetch goes on with `vs`: these are the next reads from PC, at most `n`, and PC moves past them. -/
structure FetchesMore (s : State) (n : Nat) (bs vs : List Byte) : Prop where
  bytes : (s.fetchMore n bs).1 = bs ++ vs
  atMost : vs.length ≤ n
  reads : vs = (s.readBytes s.pc vs.length).1
  state : (s.fetchMore n bs).2 = (s.readBytes s.pc vs.length).2.setPC (s.pc + BitVec.ofNat 16 vs.length)

theorem FetchesMore.nil {s : State} {n : Nat} {bs : List Byte} (h : s.fetchMore n bs = (bs, s)) :
    FetchesMore s n bs [] where
  bytes := by rw [h, List.append_nil]
  atMost := Nat.zero_le n
  reads := rfl
  state := by
    rw [h]
    show s = s.setPC (s.pc + 0#16)
    rw [BitVec.add_zero]
    rfl

theorem FetchesMore.cons {s : State} {n : Nat} {bs vs : List Byte} (hshort : bs.length < bytesNeeded bs)
    (h : FetchesMore s.fetchByte.2 n (bs ++ [s.fetchByte.1]) vs) : FetchesMore s (n + 1) bs (s.fetchByte.1 :: vs) := by
  obtain ⟨hbytes, hmost, hreads, hstate⟩ := h
  have hmore : s.fetchMore (n + 1) bs = s.fetchByte.2.fetchMore n (bs ++ [s.fetchByte.1]) := by
    rw [State.fetchMore, if_pos hshort]
  have hlen : s.pc + 1#16 + BitVec.ofNat 16 vs.length = s.pc + BitVec.ofNat 16 (vs.length + 1) := by
    rw [BitVec.add_assoc, BitVec.add_comm 1#16, BitVec.ofNat_add vs.length 1]
  rw [← hmore] at hbytes hstate
  simp only [s.fetchByte_eq, State.setPC_pc, State.readBytes_setPC] at hbytes hreads hstate ⊢
  exact ⟨by rw [hbytes, List.append_assoc, List.singleton_append], Nat.succ_le_succ hmost,
    congrArg ((s.readByte s.pc).1 :: ·) hreads, by rw [hstate, hlen]; rfl⟩

theorem State.fetchMore_fetches (n : Nat) : ∀ (s : State) (bs : List Byte), ∃ vs, FetchesMore s n bs vs := by
  induction n with
  | zero => exact fun s bs => ⟨[], .nil rfl⟩
  | succ n ih =>
    intro s bs
    by_cases hshort : bs.length < bytesNeeded bs
    · obtain ⟨vs, hvs⟩ := ih s.fetchByte.2 (bs ++ [s.fetchByte.1])
      exact ⟨_, .cons hshort hvs⟩
    · exact ⟨[], .nil (by rw [State.fetchMore, if_neg hshort])⟩

/-- The whole fetch: the bytes it gives are the reads from PC. -/
theorem State.fetch_fetches (s : State) : FetchesMore s maxInstrBytes [] s.fetch.1 := by
  obtain ⟨vs, hvs⟩ := s.fetchMore_fetches maxInstrBytes []
  have hbytes : s.fetch.1 = vs := hvs.bytes
  rwa [hbytes]

theorem State.fetch_length_pos (s : State) : 1 ≤ s.fetch.1.length :=
  (bytesNeeded_pos s.fetch.1).trans s.fetch_isWhole

theorem State.fetch_state (s : State) :
    s.fetch.2 = (s.readBytes s.pc s.fetch.1.length).2.setPC (s.pc + BitVec.ofNat 16 s.fetch.1.length) :=
  s.fetch_fetches.state

@[simp] theorem State.fetch_pc (s : State) : s.fetch.2.pc = s.pc + BitVec.ofNat 16 s.fetch.1.length := by
  rw [s.fetch_state, State.setPC_pc]

theorem State.fetch_changes (s : State) : changesOnly [.pc, .devices, .draws] s s.fetch.2 := by
  rw [s.fetch_state]
  exact (State.readBytes_changes _ s s.pc).then (State.setPC_changes _ _) (by simp)

/-- Where an instruction's encoding lies in RAM or ROM at PC, the fetch gives it and moves PC past it, with no other effect
(10_state.md R27). -/
theorem State.fetch_of_encoding {s : State} {i : Instr} (h : i.wellFormed = true) (hold : s.holdsBytes s.pc (encode i)) :
    s.fetch = (encode i, s.setPC (s.pc + BitVec.ofNat 16 (encode i).length)) := by
  have hbytes : s.fetch.1 = encode i :=
    eq_of_beginning_of_decode (s.fetch_beginning _ hold (bytesNeeded_encode_le h)) s.fetch_isWhole (decode_encode h)
  have hstate := s.fetch_state
  rw [hbytes, State.readBytes_of_holdsBytes _ hold] at hstate
  exact Prod.ext hbytes hstate

end Sys2Proof.Machine
end

section
/-! SUPPORT. What a completed step is, seen from NMI (10_state.md R42, R43, 60_exceptions.md R323, R331): a reset, or a state
that evolved from the one at the boundary, its latch perhaps acknowledged. -/

namespace Sys2Proof.Machine

theorem State.acknowledge_setWait (s : State) (w : WaitState) (ev : Event) :
    (s.setWait w).acknowledge ev = (s.acknowledge ev).setWait w := by
  unfold State.acknowledge; split <;> rfl

/-- What a step that answers a next state did. -/
theorem step_next_cases {s t : State} (h : step s = .next t) :
    (s.inputs.resetLow = true ∧ t = s.tickInputs.takeReset) ∨
    (s.inputs.resetLow = false ∧ (Evolves s.latched t ∨ ∃ ev, Evolves (s.latched.acknowledge ev) t)) := by
  have out : StepOutcome s (.next t) := h ▸ step_outcome s
  generalize hr : (Host.Outcome.next t : Result) = r at out
  cases out with
  | reset hreset => cases hr; exact .inl ⟨hreset, rfl⟩
  | wait hreset _ => cases hr; exact .inr ⟨hreset, .inl (.refl _)⟩
  | interrupt ev hreset _ _ =>
    cases hr
    refine .inr ⟨hreset, .inr ⟨ev, ?_⟩⟩
    rw [State.takeInterrupt, State.acknowledge_setWait]
    exact ((Evolves.setWait _ _).trans (Evolves.takeException _ ev)).trans (Evolves.setWait _ _)
  | release ev hreset _ _ =>
    cases hr
    exact .inr ⟨hreset, .inr ⟨ev, (Evolves.enterVector _ ev).trans (Evolves.setWait _ _)⟩⟩
  | execute hreset _ _ =>
    exact .inr ⟨hreset, .inl ((Evolves.setWait _ _).trans (Evolves.of_executeAtPC hr.symm))⟩

/-! ## Where NMI is armed -/

@[simp] theorem State.latched_nmiArmed (s : State) : s.latched.nmiArmed = s.nmiArmed := by
  unfold State.latched State.latchNmi; split <;> rfl

@[simp] theorem State.acknowledge_nmiArmed (s : State) (ev : Event) : (s.acknowledge ev).nmiArmed = s.nmiArmed := by
  unfold State.acknowledge; split <;> rfl

/-- Reset disarms NMI and clears its latch (70_reset_and_hazards.md R361). -/
theorem State.takeReset_nmi (s : State) : s.takeReset.nmiArmed = false ∧ s.takeReset.nmiPending = false := by
  have hread := s.resetRegisters.readWord_changes 0xFFFE#16
  exact ⟨hread.2 .nmiArmed (by simp), hread.2 .nmiPending (by simp)⟩

/-! ## What keeps the invariant -/

theorem State.Inv.of_evolves {s t : State} (h : s.Inv) (hev : Evolves s t) : t.Inv :=
  ⟨hev.wf h.1, fun hp => hev.armed (h.2 (hev.nmiPending ▸ hp))⟩

/-- The latch is set only where NMI is armed. -/
theorem State.Inv.latched {s : State} (h : s.Inv) : s.latched.Inv := by
  refine ⟨(KeepsPlatform.latched s).wf h.1, ?_⟩
  rw [State.latched_nmiArmed, State.latched, State.latchNmi, State.tickInputs_nmiArmed]
  split
  next hlatch => exact fun _ => (Bool.and_eq_true_iff.1 hlatch).2
  next => exact h.2

theorem State.Inv.acknowledge {s : State} (h : s.Inv) (ev : Event) : (s.acknowledge ev).Inv := by
  unfold State.acknowledge
  split
  · exact ⟨h.1, nofun⟩
  · exact h

theorem State.Inv.takeReset {s : State} (h : s.Inv) : s.takeReset.Inv :=
  ⟨(KeepsPlatform.takeReset s).wf h.1, fun hp => absurd (s.takeReset_nmi.2.symm.trans hp) (by decide)⟩

/-- Every step keeps the invariant. -/
theorem State.Inv.of_step {s t : State} (h : s.Inv) (hstep : step s = .next t) : t.Inv := by
  obtain ⟨-, rfl⟩ | ⟨-, hev | ⟨ev, hev⟩⟩ := step_next_cases hstep
  · exact State.Inv.takeReset (s := s.tickInputs) h
  · exact h.latched.of_evolves hev
  · exact (h.latched.acknowledge ev).of_evolves hev

end Sys2Proof.Machine
end

section
/-! SUPPORT. The state and the step (10_state.md): reset, the invariant, NMI armed, and the instruction at PC. -/

namespace Sys2Proof

open Machine

/-- Settles O14: reset clears the latch, an acknowledgement too, an edge sets it only where NMI is armed, and nothing else
touches it or disarms NMI. -/
theorem everyStepKeepsTheInvariant : Obligations.EveryStepKeepsTheInvariant := fun _ _ hinv hstep => hinv.of_step hstep

/-- Settles O8: the fetch is that many reads from PC, and it stops with a whole instruction, of 1 to 5 bytes. -/
theorem fetchReadsAscendingBytes : Obligations.FetchReadsAscendingBytes := fun s =>
  ⟨s.fetch_fetches.reads, s.fetch_length_pos, s.fetch_fetches.atMost, s.fetch_state⟩

/-- Settles O9: the bytes fetched are the whole encoding and decode to the instruction. -/
theorem stepExecutesTheEncodedInstruction : Obligations.StepExecutesTheEncodedInstruction := by
  intro s i hund hwf hold
  have hfetch := State.fetch_of_encoding (s := s.tickInputs) hwf ((s.tickInputs_holdsBytes s.pc _).2 hold)
  have hdec : decode s.tickInputs.fetch.1 = .ok (i, []) := by rw [hfetch, decode_encode hwf]
  rw [step_of_undisturbed hund, State.executeAtPC_of_ok hdec, hfetch, State.tickInputs_pc]

/-- Settles O16: latch and acknowledgement leave the arming alone and nothing else disarms NMI but reset, which does. -/
theorem nmiStaysArmedUntilReset : Obligations.NmiStaysArmedUntilReset := by
  intro s t hstep
  obtain ⟨hreset, rfl⟩ | ⟨hreset, hev⟩ := step_next_cases hstep
  · exact ⟨fun _ hlow => absurd (hreset.symm.trans hlow) (by decide), fun _ => s.tickInputs.takeReset_nmi.1⟩
  · refine ⟨fun harmed _ => ?_, fun hlow => absurd (hreset.symm.trans hlow) (by decide)⟩
    obtain hev | ⟨ev, hev⟩ := hev
    · exact hev.armed (by rw [State.latched_nmiArmed, harmed])
    · exact hev.armed (by rw [State.acknowledge_nmiArmed, State.latched_nmiArmed, harmed])

/-- Settles O7: an undisturbed step executes what the fetch gives, and the fetch changes PC and what its reads leave. -/
theorem stepRunsTheDecodedInstruction : Obligations.StepRunsTheDecodedInstruction := by
  intro s i rest hund hdec _
  refine ⟨?_, s.tickInputs.fetch_pc, (Evolves.fetch s.tickInputs).irqEnv, ?_⟩
  · rw [step_of_undisturbed hund, State.executeAtPC_of_ok hdec]
  · exact s.tickInputs_changes.then s.tickInputs.fetch_changes (by simp)

/-- Settles O12: each value is the one `State.reset` is written with; PC is the word of a memory that lists nothing. -/
theorem resetStateIsAsTheSpecSays : Obligations.ResetStateIsAsTheSpecSays :=
  ⟨rfl, rfl, rfl, rfl, rfl, rfl, rfl⟩

/-- Settles O13: memory lists nothing, and the latch is clear. -/
theorem resetStateMeetsTheInvariant : Obligations.ResetStateMeetsTheInvariant := ⟨rfl, nofun⟩

end Sys2Proof
end

section
/-! SUPPORT. The rules of one access (20_memory.md R54, R56, R57): what a device sees of it, and that a byte stored in RAM
is what is read there. -/

namespace Sys2Proof.Machine

@[simp] theorem State.readByte_kindAt (s : State) (a c : Word) : (s.readByte a).2.kindAt c = s.kindAt c :=
  (s.readByte_changes a).kindAt c

@[simp] theorem State.writeByte_kindAt (s : State) (a c : Word) (v : Byte) : (s.writeByte a v).kindAt c = s.kindAt c :=
  (s.writeByte_changes a v).kindAt c

/-- A device sees the read, and its answer is the byte read (20_memory.md R54). -/
theorem State.readByte_deviceLog_of_device {s : State} {a : Word} (h : s.kindAt a = .device) :
    (s.readByte a).2.deviceLog = .read a (s.readByte a).1 :: s.deviceLog := by
  unfold State.readByte; rw [h]

theorem State.readByte_deviceLog_of_empty {s : State} {a : Word} (h : s.kindAt a = .empty) :
    (s.readByte a).2.deviceLog = s.deviceLog := by
  unfold State.readByte; rw [h]

/-- A device sees the byte written (20_memory.md R56). -/
theorem State.writeByte_deviceLog_of_device {s : State} {a : Word} (h : s.kindAt a = .device) (v : Byte) :
    (s.writeByte a v).deviceLog = .write a v :: s.deviceLog := by
  unfold State.writeByte; rw [h]

/-- Devices see the high byte of a word first (20_memory.md R57). -/
theorem State.writeWord_deviceLog_of_device {s : State} {a : Word} (hhigh : s.kindAt a = .device)
    (hlow : s.kindAt (a + 1#16) = .device) (v : Word) :
    (s.writeWord a v).deviceLog = .write (a + 1#16) (lowByte v) :: .write a (highByte v) :: s.deviceLog := by
  rw [State.writeWord, State.writeByte_deviceLog_of_device (by rwa [State.writeByte_kindAt]),
    State.writeByte_deviceLog_of_device hhigh]

@[simp] theorem State.setSP_kindAt (s : State) (p : StackPtr) (v c : Word) : (s.setSP p v).kindAt c = s.kindAt c := by
  cases p <;> rfl

@[simp] theorem State.setSP_deviceLog (s : State) (p : StackPtr) (v : Word) : (s.setSP p v).deviceLog = s.deviceLog := by
  cases p <;> rfl

@[simp] theorem State.getSP_setSP (s : State) (p : StackPtr) (v : Word) : (s.setSP p v).getSP p = v := by
  cases p <;> rfl

@[simp] theorem State.writeByte_getSP (s : State) (a : Word) (v : Byte) (p : StackPtr) :
    (s.writeByte a v).getSP p = s.getSP p := by
  cases p
  · exact s.writeByte_s a v
  · exact s.writeByte_u a v

@[simp] theorem State.push8_kindAt (s : State) (p : StackPtr) (v : Byte) (c : Word) :
    (s.push8 p v).kindAt c = s.kindAt c := by
  simp [State.push8]

@[simp] theorem State.push8_getSP (s : State) (p : StackPtr) (v : Byte) : (s.push8 p v).getSP p = s.getSP p - 1#16 := by
  simp [State.push8]

/-- A push stores below the stack pointer (00_scope.md R11), and a device there sees it. -/
theorem State.push8_deviceLog_of_device {s : State} {p : StackPtr} (h : s.kindAt (s.getSP p - 1#16) = .device)
    (v : Byte) : (s.push8 p v).deviceLog = .write (s.getSP p - 1#16) v :: s.deviceLog := by
  rw [State.push8, State.writeByte_deviceLog_of_device (by rwa [State.setSP_kindAt]), State.setSP_deviceLog]

/-- Devices see the low byte of a pushed word first (00_scope.md R11). -/
theorem State.push16_deviceLog_of_device {s : State} {p : StackPtr} (hlow : s.kindAt (s.getSP p - 1#16) = .device)
    (hhigh : s.kindAt (s.getSP p - 1#16 - 1#16) = .device) (v : Word) :
    (s.push16 p v).deviceLog =
      .write (s.getSP p - 1#16 - 1#16) (highByte v) :: .write (s.getSP p - 1#16) (lowByte v) :: s.deviceLog := by
  rw [State.push16, State.push8_deviceLog_of_device (by rwa [State.push8_kindAt, State.push8_getSP]),
    State.push8_deviceLog_of_device hlow, State.push8_getSP]

/-- A byte stored in RAM is what a read gives there, and the read has no effect (20_memory.md R54, R56). -/
theorem storesBytes.readByte_of_ram {s t : State} {l : List (Word × Byte)} {ps : List Part} {a : Word} {v : Byte}
    (h : storesBytes s t l) (hframe : changesOnly ps s t) (hmem : (a, v) ∈ l) (hram : s.kindAt a = .ram) :
    t.readByte a = (v, t) := by
  obtain ⟨-, hstored, -⟩ := h
  have hv : t.byteAt a = v := (hstored (a, v) hmem).trans (if_pos hram)
  rw [t.readByte_of_content a (.inl ((hframe.kindAt a).trans hram)), hv]

end Sys2Proof.Machine
end

section
/-! SUPPORT. A step uses up one entry of the inputs and only adds to the record of device accesses and to the count of free
values (assumption log 4, 6, 10). -/

namespace Sys2Proof.Machine

@[simp] theorem State.latched_irqEnv (s : State) : s.latched.irqEnv = s.irqEnv.tail := by
  unfold State.latched State.latchNmi; split <;> rfl

@[simp] theorem State.latched_deviceLog (s : State) : s.latched.deviceLog = s.deviceLog := by
  unfold State.latched State.latchNmi; split <;> rfl

@[simp] theorem State.latched_draws (s : State) : s.latched.draws = s.draws := by
  unfold State.latched State.latchNmi; split <;> rfl

@[simp] theorem State.acknowledge_irqEnv (s : State) (ev : Event) : (s.acknowledge ev).irqEnv = s.irqEnv := by
  unfold State.acknowledge; split <;> rfl

@[simp] theorem State.acknowledge_deviceLog (s : State) (ev : Event) : (s.acknowledge ev).deviceLog = s.deviceLog := by
  unfold State.acknowledge; split <;> rfl

@[simp] theorem State.acknowledge_draws (s : State) (ev : Event) : (s.acknowledge ev).draws = s.draws := by
  unfold State.acknowledge; split <;> rfl

/-- After the registers, reset does what the shared operations do: it reads the vector (70_reset_and_hazards.md R361). -/
theorem Evolves.takeReset (s : State) : Evolves s.resetRegisters s.takeReset :=
  (readWord _ 0xFFFE#16).trans (setPC _ _)

/-- One entry of `irq_env` is used up, and the record of accesses and the count of free values only grow. -/
structure UsesOneInput (s t : State) : Prop where
  irqEnv : t.irqEnv = s.irqEnv.tail
  log : ∃ new, t.deviceLog = new ++ s.deviceLog
  draws : s.draws ≤ t.draws

/-- An evolution from a state that has used up the input and has lost no access and no draw. -/
theorem UsesOneInput.of_evolves {s u t : State} (h : Evolves u t) (hin : u.irqEnv = s.irqEnv.tail)
    (hlog : u.deviceLog = s.deviceLog) (hdraws : s.draws ≤ u.draws) : UsesOneInput s t :=
  ⟨h.irqEnv.trans hin, hlog ▸ h.log, hdraws.trans h.draws⟩

/-- A reset is a step that uses up an entry too, and counts four draws for the registers it leaves free (assumption log 6,
11). -/
theorem UsesOneInput.of_step {s t : State} (h : step s = .next t) : UsesOneInput s t := by
  obtain ⟨-, rfl⟩ | ⟨-, hev | ⟨ev, hev⟩⟩ := step_next_cases h
  · exact .of_evolves (Evolves.takeReset s.tickInputs) rfl rfl (Nat.le_add_right s.draws 4)
  · exact .of_evolves hev s.latched_irqEnv s.latched_deviceLog s.latched_draws.ge
  · exact .of_evolves hev (by simp) (by simp) (by simp)

end Sys2Proof.Machine
end

section
/-! SUPPORT. Memory (20_memory.md): bytes, words, the order of accesses, and what a step adds to their record. -/

namespace Sys2Proof

open Machine

/-- Settles O18: up to the reset registers, the latch or the acknowledgement the entry is used up and nothing is recorded;
from there the state evolves, which only adds to the record and to the count. -/
theorem stepsUseOneInputAndExtendTheRecord : Obligations.StepsUseOneInputAndExtendTheRecord := by
  intro s t hstep
  have huses := UsesOneInput.of_step hstep
  exact ⟨huses.irqEnv, huses.log, huses.draws⟩

/-- Settles O19: the rules of a read and of a write, kind by kind. -/
theorem accessesFollowTheKindOfAddress : Obligations.AccessesFollowTheKindOfAddress := by
  refine ⟨State.readByte_of_content, State.readByte_changes, fun _ _ => State.readByte_deviceLog_of_device,
    fun _ _ => State.readByte_deviceLog_of_empty,
    fun s a v hwf => ⟨s.writeByte_stores a v hwf, s.writeByte_changes a v⟩, fun s a v hwf hram => ?_⟩
  rw [(s.writeByte_stores a v hwf).readByte_of_ram (s.writeByte_changes a v) (List.mem_singleton_self _) hram]

/-- Settles O20: a word read is two byte reads as written, and each byte of a stored word is read back from RAM. -/
theorem wordsLieHighByteFirst : Obligations.WordsLieHighByteFirst := by
  refine ⟨fun _ _ => rfl, State.writeWord_stores, fun s a v hwf ⟨hram, hram1, _⟩ => ?_⟩
  have hstores := s.writeWord_stores a v hwf
  have hframe := s.writeWord_changes a v
  have hhigh := hstores.readByte_of_ram hframe (List.mem_cons_self ..) hram
  have hlow := hstores.readByte_of_ram hframe (List.mem_cons_of_mem _ (List.mem_singleton_self _)) hram1
  refine ⟨?_, hhigh, hlow⟩
  simp only [State.readWord, hhigh, hlow, joinBytes_highByte_lowByte]

/-- Settles O24: each instruction is its accesses and updates of registers and flags, which no device sees. -/
theorem devicesSeeAccessesInOrder : Obligations.DevicesSeeAccessesInOrder := by
  refine ⟨fun s a h => ⟨_, rfl, ?clr⟩, fun s a h => ⟨_, rfl, ?tst⟩, fun s a h h1 => ⟨_, rfl, ?std⟩,
    fun s h1 h2 => ⟨s.push16 .s s.x, rfl, ?pshs⟩⟩
  case clr =>
    have hread := State.readByte_deviceLog_of_device h
    have hdev : ((s.readByte a).2.clrValue (s.readByte a).1).2.kindAt a = .device := (s.readByte_kindAt a a).trans h
    exact (State.writeByte_deviceLog_of_device hdev 0x00#8).trans (congrArg _ hread)
  case tst => exact State.readByte_deviceLog_of_device h
  case std =>
    refine (State.writeWord_deviceLog_of_device h h1 s.d).trans ?_
    rw [State.d, lowByte_joinBytes, highByte_joinBytes]
  case pshs =>
    have htwo : s.s - 1#16 - 1#16 = s.s - 2#16 := by bv_omega
    rw [← htwo] at h2 ⊢
    exact State.push16_deviceLog_of_device (p := .s) h1 h2 s.x

end Sys2Proof
end

section
/-! SUPPORT. How many bytes each entry of the opcode tables encodes to (30_encoding.md R73, R74, R105 to R107), and so the
length of whatever the decoder accepts. -/

namespace Sys2Proof

open Machine

/-! ## Operand bytes -/

/-- The bytes of a memory operand after the opcode (30_encoding.md R73). -/
def MemOperand.byteCount : MemOperand → Nat
  | .dir _ => 1
  | .ext _ => 2
  | .idx ix => (encodeIndexed ix).length

/-- As `MemOperand.byteCount`, for an 8-bit operand. -/
def Operand8.byteCount : Operand8 → Nat
  | .imm _ => 1
  | .mem m => m.byteCount

/-- As `MemOperand.byteCount`, for a 16-bit operand. -/
def Operand16.byteCount : Operand16 → Nat
  | .imm _ => 2
  | .mem m => m.byteCount

theorem encodeMem_length (page : List Byte) (dir idx ext : Byte) (m : MemOperand) :
    (encodeMem page dir idx ext m).length = page.length + 1 + m.byteCount := by
  cases m with
  | dir off | ext addr => exact List.length_append
  | idx ix =>
    rw [encodeMem, List.length_append, List.length_cons, Nat.add_comm _ 1, ← Nat.add_assoc]
    rfl

theorem encodeOp8_length (page : List Byte) (code : Byte) (op : Operand8) :
    (encodeOp8 page code op).length = page.length + 1 + op.byteCount := by
  cases op with
  | imm v => exact List.length_append
  | mem m => exact encodeMem_length page _ _ _ m

theorem encodeOp16_length (page : List Byte) (code : Byte) (op : Operand16) :
    (encodeOp16 page code op).length = page.length + 1 + op.byteCount := by
  cases op with
  | imm v => exact List.length_append
  | mem m => exact encodeMem_length page _ _ _ m

/-! ## Formats -/

/-- The encoding can express the instruction, in `n` bytes. -/
def Instr.EncodesIn (n : Nat) (i : Instr) : Prop := i.wellFormed = true ∧ (encode i).length = n

/-- After `n` bytes of opcode, each instruction of the format has the operand bytes that the format says; a register postbyte
must name two registers of one size (30_encoding.md R73, R84). -/
def Shape.EncodesAfter (n : Nat) : Shape → Prop
  | .inh i => i.EncodesIn n
  | .imm8 k | .dir k | .rel8 k | .stkpb k => ∀ v, (k v).EncodesIn (n + 1)
  | .imm16 k | .ext k | .rel16 k => ∀ v, (k v).EncodesIn (n + 2)
  | .idx k => ∀ ix, (k ix).EncodesIn (n + (encodeIndexed ix).length)
  | .regpb k => ∀ r1 r2, r1.sameSize r2 = true → (k r1 r2).EncodesIn (n + 1)

/-- `Shape.EncodesAfter` of a table's entry, where it has one. -/
def EntryEncodesAfter (n : Nat) : Option Shape → Prop
  | none => True
  | some sh => sh.EncodesAfter n

section

variable {n : Nat} (q : Nat)

theorem dirShape_encodesAfter {k : MemOperand → Instr} (h : ∀ m, (k m).EncodesIn (n + m.byteCount)) :
    (dirShape k).EncodesAfter n := fun off => h (.dir off)

theorem extShape_encodesAfter {k : MemOperand → Instr} (h : ∀ m, (k m).EncodesIn (n + m.byteCount)) :
    (extShape k).EncodesAfter n := fun addr => h (.ext addr)

theorem idxShape_encodesAfter {k : MemOperand → Instr} (h : ∀ m, (k m).EncodesIn (n + m.byteCount)) :
    (idxShape k).EncodesAfter n := fun ix => h (.idx ix)

theorem op8Shape_encodesAfter {k : Operand8 → Instr} (h : ∀ op, (k op).EncodesIn (n + op.byteCount)) :
    EntryEncodesAfter n (some (op8Shape q k)) :=
  match q with
  | 0 => fun v => h (.imm v)
  | 1 => dirShape_encodesAfter fun m => h (.mem m)
  | 2 => idxShape_encodesAfter fun m => h (.mem m)
  | _ + 3 => extShape_encodesAfter fun m => h (.mem m)

theorem op16Shape_encodesAfter {k : Operand16 → Instr} (h : ∀ op, (k op).EncodesIn (n + op.byteCount)) :
    EntryEncodesAfter n (some (op16Shape q k)) :=
  match q with
  | 0 => fun v => h (.imm v)
  | 1 => dirShape_encodesAfter fun m => h (.mem m)
  | 2 => idxShape_encodesAfter fun m => h (.mem m)
  | _ + 3 => extShape_encodesAfter fun m => h (.mem m)

theorem memShape_encodesAfter {k : MemOperand → Instr} (h : ∀ m, (k m).EncodesIn (n + m.byteCount)) :
    EntryEncodesAfter n (memShape q k) :=
  match q with
  | 0 => trivial
  | 1 => dirShape_encodesAfter h
  | 2 => idxShape_encodesAfter h
  | _ + 3 => extShape_encodesAfter h

end

/-! ## Tables -/

/-- The unary instructions on memory, under any of the three formats of a memory operand. -/
theorem unaryMemory_encodesAfter {form : (MemOperand → Instr) → Shape}
    (h : ∀ k : MemOperand → Instr, (∀ m, (k m).EncodesIn (1 + m.byteCount)) → (form k).EncodesAfter 1) :
    ∀ lo, EntryEncodesAfter 1 (unaryMemory form lo)
  | 0x0 | 0x3 | 0x4 | 0x6 | 0x7 | 0x8 | 0x9 | 0xA | 0xC | 0xD | 0xE | 0xF =>
    h _ fun m => ⟨rfl, encodeMem_length [] _ _ _ m⟩
  | 0x1 | 0x2 | 0x5 | 0xB | _ + 0x10 => trivial

theorem unaryA_encodesAfter : ∀ lo, EntryEncodesAfter 1 (unaryA lo)
  | 0x0 | 0x3 | 0x4 | 0x6 | 0x7 | 0x8 | 0x9 | 0xA | 0xC | 0xD | 0xF => ⟨rfl, rfl⟩
  | 0x1 | 0x2 | 0x5 | 0xB | 0xE | _ + 0x10 => trivial

theorem unaryB_encodesAfter : ∀ lo, EntryEncodesAfter 1 (unaryB lo)
  | 0x0 | 0x3 | 0x4 | 0x6 | 0x7 | 0x8 | 0x9 | 0xA | 0xC | 0xD | 0xF => ⟨rfl, rfl⟩
  | 0x1 | 0x2 | 0x5 | 0xB | 0xE | _ + 0x10 => trivial

theorem group1_encodesAfter : ∀ lo, EntryEncodesAfter 1 (group1 lo)
  | 0x2 | 0x3 | 0x9 | 0xD => ⟨rfl, rfl⟩
  | 0x6 | 0x7 | 0xA | 0xC => fun _ => ⟨rfl, rfl⟩
  | 0xE | 0xF => fun _ _ hsize => ⟨hsize, rfl⟩
  | 0x0 | 0x1 | 0x4 | 0x5 | 0x8 | 0xB | _ + 0x10 => trivial

theorem shortBranch_encodesAfter : ∀ lo, EntryEncodesAfter 1 (shortBranch lo)
  | 0x0 | 0x1 | 0x2 | 0x3 | 0x4 | 0x5 | 0x6 | 0x7 | 0x8 | 0x9 | 0xA | 0xB | 0xC | 0xD | 0xE | 0xF => fun _ => ⟨rfl, rfl⟩
  | _ + 0x10 => trivial

theorem group3_encodesAfter : ∀ lo, EntryEncodesAfter 1 (group3 lo)
  | 0x0 | 0x1 | 0x2 | 0x3 => fun _ => ⟨rfl, Nat.add_comm _ 1⟩
  | 0x4 | 0x5 | 0x6 | 0x7 | 0xC => fun _ => ⟨rfl, rfl⟩
  | 0x9 | 0xA | 0xB | 0xD | 0xF => ⟨rfl, rfl⟩
  | 0x8 | 0xE | _ + 0x10 => trivial

theorem groupA_encodesAfter (q : Nat) : ∀ lo, EntryEncodesAfter 1 (groupA q lo)
  | 0x0 | 0x1 | 0x2 | 0x4 | 0x5 | 0x6 | 0x8 | 0x9 | 0xA | 0xB =>
    op8Shape_encodesAfter q fun op => ⟨rfl, encodeOp8_length [] _ op⟩
  | 0x3 | 0xC | 0xE => op16Shape_encodesAfter q fun op => ⟨rfl, encodeOp16_length [] _ op⟩
  | 0x7 | 0xF => memShape_encodesAfter q fun m => ⟨rfl, encodeMem_length [] _ _ _ m⟩
  | 0xD =>
    match q with
    | 0 => fun _ => ⟨rfl, rfl⟩
    | q + 1 => memShape_encodesAfter (q + 1) fun m => ⟨rfl, encodeMem_length [] _ _ _ m⟩
  | _ + 0x10 => trivial

theorem groupB_encodesAfter (q : Nat) : ∀ lo, EntryEncodesAfter 1 (groupB q lo)
  | 0x0 | 0x1 | 0x2 | 0x4 | 0x5 | 0x6 | 0x8 | 0x9 | 0xA | 0xB =>
    op8Shape_encodesAfter q fun op => ⟨rfl, encodeOp8_length [] _ op⟩
  | 0x3 | 0xC | 0xE => op16Shape_encodesAfter q fun op => ⟨rfl, encodeOp16_length [] _ op⟩
  | 0x7 | 0xD | 0xF => memShape_encodesAfter q fun m => ⟨rfl, encodeMem_length [] _ _ _ m⟩
  | _ + 0x10 => trivial

theorem longBranch_encodesAfter : ∀ lo, EntryEncodesAfter 2 (longBranch lo)
  | 0x1 | 0x2 | 0x3 | 0x4 | 0x5 | 0x6 | 0x7 | 0x8 | 0x9 | 0xA | 0xB | 0xC | 0xD | 0xE | 0xF => fun _ => ⟨rfl, rfl⟩
  | 0x0 | _ + 0x10 => trivial

theorem page2GroupY_encodesAfter (q : Nat) : ∀ lo, EntryEncodesAfter 2 (page2GroupY q lo)
  | 0x3 | 0xC | 0xE => op16Shape_encodesAfter q fun op => ⟨rfl, encodeOp16_length [0x10#8] _ op⟩
  | 0xF => memShape_encodesAfter q fun m => ⟨rfl, encodeMem_length [0x10#8] _ _ _ m⟩
  | 0x0 | 0x1 | 0x2 | 0x4 | 0x5 | 0x6 | 0x7 | 0x8 | 0x9 | 0xA | 0xB | 0xD | _ + 0x10 => trivial

theorem page2GroupS_encodesAfter (q : Nat) : ∀ lo, EntryEncodesAfter 2 (page2GroupS q lo)
  | 0xE => op16Shape_encodesAfter q fun op => ⟨rfl, encodeOp16_length [0x10#8] _ op⟩
  | 0xF => memShape_encodesAfter q fun m => ⟨rfl, encodeMem_length [0x10#8] _ _ _ m⟩
  | 0x0 | 0x1 | 0x2 | 0x3 | 0x4 | 0x5 | 0x6 | 0x7 | 0x8 | 0x9 | 0xA | 0xB | 0xC | 0xD | _ + 0x10 => trivial

theorem page3Group_encodesAfter (q : Nat) : ∀ lo, EntryEncodesAfter 2 (page3Group q lo)
  | 0x3 | 0xC => op16Shape_encodesAfter q fun op => ⟨rfl, encodeOp16_length [0x11#8] _ op⟩
  | 0x0 | 0x1 | 0x2 | 0x4 | 0x5 | 0x6 | 0x7 | 0x8 | 0x9 | 0xA | 0xB | 0xD | 0xE | 0xF | _ + 0x10 => trivial

theorem page1_encodesAfter (op : Byte) : EntryEncodesAfter 1 (page1 op) := by
  unfold page1
  generalize op.toNat / 16 = hi
  match hi with
  | 0x0 => exact unaryMemory_encodesAfter (fun _ => dirShape_encodesAfter) _
  | 0x1 => exact group1_encodesAfter _
  | 0x2 => exact shortBranch_encodesAfter _
  | 0x3 => exact group3_encodesAfter _
  | 0x4 => exact unaryA_encodesAfter _
  | 0x5 => exact unaryB_encodesAfter _
  | 0x6 => exact unaryMemory_encodesAfter (fun _ => idxShape_encodesAfter) _
  | 0x7 => exact unaryMemory_encodesAfter (fun _ => extShape_encodesAfter) _
  | 0x8 | 0x9 | 0xA | 0xB => exact groupA_encodesAfter _ _
  | 0xC | 0xD | 0xE | 0xF => exact groupB_encodesAfter _ _
  | _ + 0x10 => trivial

theorem page2_encodesAfter (op : Byte) : EntryEncodesAfter 2 (page2 op) := by
  unfold page2
  generalize op.toNat / 16 = hi
  match hi with
  | 0x2 => exact longBranch_encodesAfter _
  | 0x3 => show EntryEncodesAfter 2 (if _ then _ else _); split <;> [exact ⟨rfl, rfl⟩; trivial]
  | 0x8 | 0x9 | 0xA | 0xB => exact page2GroupY_encodesAfter _ _
  | 0xC | 0xD | 0xE | 0xF => exact page2GroupS_encodesAfter _ _
  | 0x0 | 0x1 | 0x4 | 0x5 | 0x6 | 0x7 | _ + 0x10 => trivial

theorem page3_encodesAfter (op : Byte) : EntryEncodesAfter 2 (page3 op) := by
  unfold page3
  generalize op.toNat / 16 = hi
  match hi with
  | 0x3 => show EntryEncodesAfter 2 (if _ then _ else _); split <;> [exact ⟨rfl, rfl⟩; trivial]
  | 0x8 | 0x9 | 0xA | 0xB => exact page3Group_encodesAfter _ _
  | 0x0 | 0x1 | 0x2 | 0x4 | 0x5 | 0x6 | 0x7 | 0xC | 0xD | 0xE | 0xF | _ + 0x10 => trivial

/-! ## What the decoder accepts -/

theorem eq_of_takeByte_ok {α : Type} {k : Byte → α} {bs rest : List Byte} {x : α} (h : takeByte k bs = .ok (x, rest)) :
    ∃ v, bs = v :: rest ∧ x = k v := by
  match bs with
  | v :: _ => cases h; exact ⟨v, rfl, rfl⟩

theorem eq_of_takeWord_ok {α : Type} {k : Word → α} {bs rest : List Byte} {x : α} (h : takeWord k bs = .ok (x, rest)) :
    ∃ hi lo, bs = hi :: lo :: rest ∧ x = k (joinBytes hi lo) := by
  match bs with
  | hi :: lo :: _ => cases h; exact ⟨hi, lo, rfl, rfl⟩

/-- After an indexed postbyte the decoder uses the offset bytes of the form it reads, `indexedExtra` of them (30_encoding.md
R103). -/
theorem decodeIndexed_used {pb : Byte} {bs rest : List Byte} {ix : Indexed} (h : decodeIndexed (pb :: bs) = .ok (ix, rest)) :
    ∃ off, bs = off ++ rest ∧ indexedExtra pb = off.length ∧ (encodeIndexed ix).length = off.length + 1 := by
  simp only [decodeIndexed, indexedExtra] at h ⊢
  generalize pb.getLsbD 4 = ind at h
  cases hlong : pb.getLsbD 7 with
  | false => rw [hlong] at h; cases h; exact ⟨[], rfl, rfl, rfl⟩
  | true =>
    rw [hlong] at h
    simp only [if_true] at h ⊢
    generalize (pb.extractLsb' 0 4).toNat = mode at h
    match mode with
    | 0x0 | 0x2 => cases ind <;> cases h; exact ⟨[], rfl, rfl, rfl⟩
    | 0x1 | 0x3 | 0x4 | 0x5 | 0x6 | 0xB => cases h; exact ⟨[], rfl, rfl, rfl⟩
    | 0x8 | 0xC => obtain ⟨v, rfl, rfl⟩ := eq_of_takeByte_ok h; exact ⟨[v], rfl, rfl, rfl⟩
    | 0x9 | 0xD => obtain ⟨hi, lo, rfl, rfl⟩ := eq_of_takeWord_ok h; exact ⟨[hi, lo], rfl, rfl, rfl⟩
    | 0xF =>
      by_cases hpb : pb = 0x9F#8
      · simp only [if_pos hpb] at h ⊢
        obtain ⟨hi, lo, rfl, rfl⟩ := eq_of_takeWord_ok h
        exact ⟨[hi, lo], rfl, rfl, rfl⟩
      · simp only [if_neg hpb] at h
        exact nomatch h
    | 0x7 | 0xA | 0xE | _ + 16 => exact nomatch h

theorem sameSize_of_decodeRegisterPostbyte {pb : Byte} {r1 r2 : Reg} (h : decodeRegisterPostbyte pb = .ok (r1, r2)) :
    r1.sameSize r2 = true := by
  unfold decodeRegisterPostbyte at h
  split at h <;> cases h <;> rfl

/-- After `n` bytes of opcode, `bs` is an operand of `i`, `needed` bytes long, and then `rest`. -/
def OperandThen (n : Nat) (bs rest : List Byte) (i : Instr) (needed : Nat) : Prop :=
  ∃ used, bs = used ++ rest ∧ i.EncodesIn (n + used.length) ∧ needed = used.length

/-- The opcode's bytes in front of the operand's. -/
theorem OperandThen.after {bs rest : List Byte} {i : Instr} {needed : Nat} (front : List Byte)
    (h : OperandThen front.length bs rest i needed) :
    OperandThen 0 (front ++ bs) rest i (front.length + needed) := by
  obtain ⟨used, rfl, henc, rfl⟩ := h
  have hlen : (front ++ used).length = front.length + used.length := List.length_append
  exact ⟨front ++ used, (List.append_assoc ..).symm, by rwa [Nat.zero_add, hlen], hlen.symm⟩

theorem decodeShape_operandThen {n : Nat} {sh : Shape} {bs rest : List Byte} {i : Instr} (hsh : sh.EncodesAfter n)
    (h : decodeShape sh bs = .ok (i, rest)) : OperandThen n bs rest i (operandBytes (some sh) bs) := by
  cases sh with
  | inh j => cases h; exact ⟨[], rfl, hsh, rfl⟩
  | imm8 k | dir k | rel8 k | stkpb k =>
    obtain ⟨v, rfl, rfl⟩ := eq_of_takeByte_ok h
    exact ⟨[v], rfl, hsh v, rfl⟩
  | imm16 k | ext k | rel16 k =>
    obtain ⟨hi, lo, rfl, rfl⟩ := eq_of_takeWord_ok h
    exact ⟨[hi, lo], rfl, hsh _, rfl⟩
  | idx k =>
    match bs with
    | pb :: bs =>
      simp only [decodeShape] at h
      split at h <;> cases h
      next ix hix =>
        obtain ⟨off, rfl, hextra, hlen⟩ := decodeIndexed_used hix
        refine ⟨pb :: off, rfl, ?_, ?_⟩
        · rw [List.length_cons, ← hlen]
          exact hsh ix
        · rw [List.length_cons, ← hextra]
          exact Nat.add_comm 1 _
  | regpb k =>
    match bs with
    | pb :: bs =>
      simp only [decodeShape] at h
      split at h <;> cases h
      next r1 r2 hregs => exact ⟨[pb], rfl, hsh r1 r2 (sameSize_of_decodeRegisterPostbyte hregs), rfl⟩

theorem decodeOpcode_operandThen {n : Nat} {sh : Option Shape} {bs rest : List Byte} {i : Instr}
    (hsh : EntryEncodesAfter n sh) (h : decodeOpcode sh bs = .ok (i, rest)) :
    OperandThen n bs rest i (operandBytes sh bs) := by
  cases sh with
  | none => exact nomatch h
  | some sh => exact decodeShape_operandThen hsh h

/-- What the decoder accepts begins with as many bytes as the instruction's encoding has, and as `bytesNeeded` says. -/
theorem decode_operandThen {bs rest : List Byte} {i : Instr} (h : decode bs = .ok (i, rest)) :
    OperandThen 0 bs rest i (bytesNeeded bs) := by
  match bs with
  | b :: bs =>
    simp only [decode, bytesNeeded] at h ⊢
    split_ifs at h ⊢
    · match bs with
      | op :: _ => exact (decodeOpcode_operandThen (page2_encodesAfter op) h).after [b, op]
    · match bs with
      | op :: _ => exact (decodeOpcode_operandThen (page3_encodesAfter op) h).after [b, op]
    · exact (decodeOpcode_operandThen (page1_encodesAfter b) h).after [b]

end Sys2Proof
end

section
/-! SUPPORT. What the decoder refuses: an opcode no table lists, an indexed postbyte no form has, a register postbyte of two
sizes (30_encoding.md R84, R102, R108, R109). -/

namespace Sys2Proof

/-! ## Opcodes -/

theorem takeByte_ne_error {α : Type} (k : Byte → α) (bs : List Byte) {e : DecodeError} (he : e ≠ .truncated) :
    takeByte k bs ≠ .error e := by
  cases bs with
  | nil => exact fun h => he (Except.error.inj h).symm
  | cons _ _ => exact nofun

theorem takeWord_ne_error {α : Type} (k : Word → α) (bs : List Byte) {e : DecodeError} (he : e ≠ .truncated) :
    takeWord k bs ≠ .error e := by
  match bs with
  | [] | [_] => exact fun h => he (Except.error.inj h).symm
  | _ :: _ :: _ => exact nofun

theorem decodeIndexed_ne_illegalOpcode (bs : List Byte) : decodeIndexed bs ≠ .error .illegalOpcode := by
  match bs with
  | [] => exact nofun
  | pb :: bs =>
    rcases decodeIndexed_cases pb with ⟨-, _, h⟩ | ⟨-, h⟩ | ⟨-, k, h⟩ | ⟨-, k, h⟩ <;> rw [h]
    · exact nofun
    · exact nofun
    · exact takeByte_ne_error k bs nofun
    · exact takeWord_ne_error k bs nofun

theorem decodeRegisterPostbyte_ne_illegalOpcode (pb : Byte) : decodeRegisterPostbyte pb ≠ .error .illegalOpcode := by
  unfold decodeRegisterPostbyte
  split <;> exact nofun

/-- An opcode that a table lists is not refused for itself, only its operand may be. -/
theorem decodeShape_ne_illegalOpcode (sh : Shape) (bs : List Byte) : decodeShape sh bs ≠ .error .illegalOpcode := by
  cases sh with
  | inh i => exact nofun
  | imm8 k | dir k | rel8 k | stkpb k => exact takeByte_ne_error k bs nofun
  | imm16 k | ext k | rel16 k => exact takeWord_ne_error k bs nofun
  | idx k =>
    have h := decodeIndexed_ne_illegalOpcode bs
    rw [decodeShape]
    split
    · exact nofun
    next e he => exact fun heq => h (he.trans (congrArg _ (Except.error.inj heq)))
  | regpb k =>
    match bs with
    | [] => exact nofun
    | pb :: bs =>
      have h := decodeRegisterPostbyte_ne_illegalOpcode pb
      rw [decodeShape]
      split
      · exact nofun
      next e he => exact fun heq => h (he.trans (congrArg _ (Except.error.inj heq)))

theorem decodeOpcode_illegal_iff (sh : Option Shape) (bs : List Byte) :
    decodeOpcode sh bs = .error .illegalOpcode ↔ sh.isNone = true := by
  cases sh with
  | none => exact ⟨fun _ => rfl, fun _ => rfl⟩
  | some sh => exact ⟨fun h => absurd h (decodeShape_ne_illegalOpcode sh bs), nofun⟩

theorem decode_illegalOpcode_iff_page1 {op : Byte} (h2 : op ≠ 0x10#8) (h3 : op ≠ 0x11#8) (rest : List Byte) :
    decode (op :: rest) = .error .illegalOpcode ↔ (page1 op).isNone = true := by
  rw [decode, if_neg h2, if_neg h3, decodeOpcode_illegal_iff]

theorem decode_illegalOpcode_iff_page2 (op : Byte) (rest : List Byte) :
    decode (0x10#8 :: op :: rest) = .error .illegalOpcode ↔ (page2 op).isNone = true :=
  decodeOpcode_illegal_iff (page2 op) rest

theorem decode_illegalOpcode_iff_page3 (op : Byte) (rest : List Byte) :
    decode (0x11#8 :: op :: rest) = .error .illegalOpcode ↔ (page3 op).isNone = true :=
  decodeOpcode_illegal_iff (page3 op) rest

/-! ## Postbytes -/

/-- Whether an indexed postbyte is refused does not depend on the bytes after it. -/
theorem decodeIndexed_illegal_congr (pb : Byte) (bs bs' : List Byte) :
    decodeIndexed (pb :: bs) = .error .illegalIndexedPostbyte ↔
      decodeIndexed (pb :: bs') = .error .illegalIndexedPostbyte := by
  rcases decodeIndexed_cases pb with ⟨-, ix, h⟩ | ⟨-, h⟩ | ⟨-, k, h⟩ | ⟨-, k, h⟩ <;> rw [h, h]
  · exact ⟨nofun, nofun⟩
  · exact ⟨fun h => absurd h (takeByte_ne_error k bs nofun), fun h => absurd h (takeByte_ne_error k bs' nofun)⟩
  · exact ⟨fun h => absurd h (takeWord_ne_error k bs nofun), fun h => absurd h (takeWord_ne_error k bs' nofun)⟩

theorem decodeIndexed_inc1_indirect (rr : BitVec 2) (bs : List Byte) :
    decodeIndexed (longPostbyte rr true 0b0000#4 :: bs) = .error .illegalIndexedPostbyte := by
  simp only [decodeIndexed, longPostbyte_fields, if_true]; rfl

theorem decodeIndexed_dec1_indirect (rr : BitVec 2) (bs : List Byte) :
    decodeIndexed (longPostbyte rr true 0b0010#4 :: bs) = .error .illegalIndexedPostbyte := by
  simp only [decodeIndexed, longPostbyte_fields, if_true]; rfl

theorem decodeRegisterPostbyte_of_mixed_sizes {r1 r2 : Reg} (h : ¬ r1.sameSize r2 = true) :
    decodeRegisterPostbyte (registerPostbyte r1 r2) = .error .illegalRegisterPostbyte := by
  obtain ⟨h1, h2⟩ := registerPostbyte_fields r1 r2
  unfold decodeRegisterPostbyte
  rw [h1, h2, Reg.ofCode_code, Reg.ofCode_code]
  match r1, r2 with
  | .r16 _, .r8 _ | .r8 _, .r16 _ => rfl
  | .r16 _, .r16 _ | .r8 _, .r8 _ => exact absurd rfl h

theorem Reg.ofCode_unassigned {c : BitVec 4}
    (h : c ∈ [0b0110#4, 0b0111#4, 0b1100#4, 0b1101#4, 0b1110#4, 0b1111#4]) : Reg.ofCode c = none := by
  revert c; decide

theorem decodeRegisterPostbyte_of_unassigned {c1 c2 : BitVec 4} (h : Reg.ofCode c1 = none ∨ Reg.ofCode c2 = none) :
    decodeRegisterPostbyte (c1 ++ c2) = .error .illegalRegisterPostbyte := by
  have h1 : (c1 ++ c2).extractLsb' 4 4 = c1 := BitVec.extractLsb'_append_eq_left
  have h2 : (c1 ++ c2).extractLsb' 0 4 = c2 := BitVec.extractLsb'_append_eq_right
  unfold decodeRegisterPostbyte
  rw [h1, h2]
  rcases h with h | h <;> rw [h]
  cases Reg.ofCode c1 with
  | none => rfl
  | some r => cases r <;> rfl

end Sys2Proof
end

section
/-! SUPPORT. The indexed forms that are no encoder's output as it stands, and what an indexed address leaves: reading a pointer
keeps the base register as auto increment or decrement moved it (30_encoding.md R88 to R104). -/

namespace Sys2Proof

open Machine

theorem decodeIndexed_off16 (r : IndexReg) (ind : Bool) (h l : Byte) (rest : List Byte) :
    decodeIndexed (longPostbyte r.code ind 0b1001#4 :: h :: l :: rest) = .ok (.off16 r (joinBytes h l) ind, rest) := by
  simpa only [encodeIndexed, List.cons_append, List.nil_append, highByte_joinBytes, lowByte_joinBytes] using
    decodeIndexed_encodeIndexed (.off16 r (joinBytes h l) ind) rest

/-- `RR` is ignored in the PC-relative forms (30_encoding.md R89, R98). -/
theorem decodeIndexed_pcr8 (rr : BitVec 2) (ind : Bool) (n : Byte) (rest : List Byte) :
    decodeIndexed (longPostbyte rr ind 0b1100#4 :: n :: rest) = .ok (.pcr8 n ind, rest) := by
  simp only [decodeIndexed, longPostbyte_fields, if_true]; rfl

/-- As `decodeIndexed_pcr8` (30_encoding.md R99). -/
theorem decodeIndexed_pcr16 (rr : BitVec 2) (ind : Bool) (h l : Byte) (rest : List Byte) :
    decodeIndexed (longPostbyte rr ind 0b1101#4 :: h :: l :: rest) = .ok (.pcr16 (joinBytes h l) ind, rest) := by
  simp only [decodeIndexed, longPostbyte_fields, if_true]; rfl

end Sys2Proof

namespace Sys2Proof.Machine

theorem changesOnly.getIndex {ps : List Part} {s t : State} (h : changesOnly ps s t) {r : IndexReg} (hr : r.part ∉ ps) :
    t.getIndex r = s.getIndex r := by
  cases r with
  | x => exact h.2 .x hr
  | y => exact h.2 .y hr
  | u => exact h.2 .u hr
  | s => exact h.2 .s hr

@[simp] theorem State.getIndex_setIndex (s : State) (r : IndexReg) (v : Word) : (s.setIndex r v).getIndex r = v := by
  cases r <;> rfl

@[simp] theorem State.indirect_getIndex (s : State) (ind : Bool) (ea : Word) (r : IndexReg) :
    (s.indirect ind ea).2.getIndex r = s.getIndex r :=
  (s.indirect_changes ind ea).getIndex (by cases r <;> simp [IndexReg.part])

/-- Addresses wrap: below $0000 lies $FFFF (30_encoding.md R97, R104). -/
theorem State.operand8_dec1_at_zero {s : State} (hs : s.s = 0x0000#16) :
    s.operand8 (.mem (.idx (.dec1 .s))) = (s.setS 0xFFFF#16).readByte 0xFFFF#16 := by
  have hwrap : s.getIndex .s - 1#16 = 0xFFFF#16 := by rw [State.getIndex, hs]; rfl
  rw [State.operand8, State.resolveEA, State.indexedEA, hwrap]
  rfl

/-- A word stored in RAM is what lies there (20_memory.md R57). -/
theorem State.writeWord_bytesAt_of_ram {s : State} (hwf : s.mem.wf = true) {a : Word} (hram : s.ramAt a 2) (v : Word) :
    joinBytes ((s.writeWord a v).byteAt a) ((s.writeWord a v).byteAt (a + 1#16)) = v := by
  obtain ⟨-, hstored, -⟩ := s.writeWord_stores a v hwf
  obtain ⟨hram0, hram1, -⟩ := hram
  have hhigh := hstored (a, highByte v) (List.mem_cons_self ..)
  have hlow := hstored (a + 1#16, lowByte v) (List.mem_cons_of_mem _ (List.mem_singleton_self _))
  rw [hhigh, hlow, if_pos hram0, if_pos hram1, joinBytes_highByte_lowByte]

end Sys2Proof.Machine
end

section
/-! SUPPORT. The encoding (30_encoding.md): what the decoder accepts, what it refuses, and the addresses the forms give. -/

namespace Sys2Proof

open Machine Claims

/-- Settles O2: by cases of the instruction, each opcode's entry read off the tables. -/
theorem decodeOfEncodeIsTheInstruction : Obligations.DecodeOfEncodeIsTheInstruction :=
  fun i rest hwf => decodesTo_encode i hwf rest

/-- Settles O3: every entry of the tables encodes to as many bytes as the decoder uses for it. -/
theorem decodedBytesHaveTheEncodedLength : Obligations.DecodedBytesHaveTheEncodedLength := by
  intro bs i rest hdec
  obtain ⟨used, hbytes, ⟨hwf, hlen⟩, hneeded⟩ := decode_operandThen hdec
  rw [Nat.zero_add] at hlen
  exact ⟨hwf, used, hbytes, hlen.symm, hneeded ▸ bytesNeeded_pos bs, hneeded ▸ bytesNeeded_le_maxInstrBytes bs, hneeded⟩

/-- Settles O21: the postbyte's fields select the form; the addresses are as written, a decrement being the addition of a
negative number, and a pointer's read leaves the base register as it was moved. -/
theorem indexedFormsDecodeAndAddress : Obligations.IndexedFormsDecodeAndAddress := by
  refine ⟨fun r xx i n h l rest => ?postbytes, fun s r i n5 n8 n16 => ?addresses, State.indexedEA_changes⟩
  case postbytes =>
    have enc (ix : Indexed) := decodeIndexed_encodeIndexed ix rest
    exact ⟨enc (.off5 r n), enc (.off0 r i), enc (.off8 r l i), decodeIndexed_off16 r i h l rest, enc (.accA r i),
      enc (.accB r i), enc (.accD r i), enc (.inc1 r), enc (.inc2 r i), enc (.dec1 r), enc (.dec2 r i),
      decodeIndexed_pcr8 xx i l rest, decodeIndexed_pcr16 xx i h l rest, rfl, decodeIndexed_inc1_indirect r.code rest,
      decodeIndexed_dec1_indirect r.code rest⟩
  case addresses =>
    intro via moved
    have hone : s.getIndex r - 1#16 = s.getIndex r + BitVec.ofInt 16 (-1) := BitVec.sub_eq_add_neg _ 1#16
    have htwo : s.getIndex r - 2#16 = s.getIndex r + BitVec.ofInt 16 (-2) := BitVec.sub_eq_add_neg _ 2#16
    have hdec1 : s.indexedEA (.dec1 r) = (s.getIndex r - 1#16, moved (-1)) := by rw [State.indexedEA, hone]
    have hdec2 : s.indexedEA (.dec2 r i) = via (moved (-2)) (s.getIndex r - 2#16) := by rw [State.indexedEA, htwo]; rfl
    exact ⟨rfl, rfl, rfl, rfl, rfl, rfl, rfl, rfl, rfl, by simp [State.indexedEA], hdec1, hdec2, by simp [State.indexedEA],
      rfl, rfl, rfl⟩

/-- Settles O1: the decoder read on each word. -/
theorem wordsOfTheSpecDecodeAsItSays : Obligations.WordsOfTheSpecDecodeAsItSays :=
  ⟨fun _ => rfl, fun _ => rfl, fun _ => rfl, fun _ => rfl, fun _ => rfl, fun _ => rfl, fun _ => rfl, fun _ => rfl,
    fun _ => rfl, fun _ => rfl, fun _ => rfl, fun _ => rfl, fun _ => rfl, fun _ => rfl⟩

/-- Settles O4: an opcode is refused where its table has no entry, and the tables are compared with the lists. -/
theorem illegalOpcodesAreExactlyThose : Obligations.IllegalOpcodesAreExactlyThose := by
  refine ⟨fun op rest h2 h3 => ?page1, fun op rest => ?page2, fun op rest => ?page3⟩
  case page1 =>
    rw [decode_illegalOpcode_iff_page1 h2 h3]
    revert op; decide
  case page2 =>
    rw [decode_illegalOpcode_iff_page2]
    revert op; decide
  case page3 =>
    rw [decode_illegalOpcode_iff_page3]
    revert op; decide

/-- Settles O5: the bytes that follow do not matter, so each postbyte is decided before two zeros. -/
theorem illegalIndexedPostbytesAreExactlyThose : Obligations.IllegalIndexedPostbytesAreExactlyThose := by
  intro pb rest
  rw [decodeIndexed_illegal_congr pb rest [0x00#8, 0x00#8]]
  revert pb; decide

/-- Settles O6: the two fields are read back, and the three outcomes follow from the registers they name. -/
theorem registerPostbytesNameTwoRegistersOfOneSize : Obligations.RegisterPostbytesNameTwoRegistersOfOneSize := by
  refine ⟨⟨rfl, rfl, rfl, rfl, rfl, rfl, rfl, rfl, rfl, rfl⟩, fun r1 r2 => ?_, fun c1 c2 h => ?_⟩
  · split
    next hsize => exact decodeRegisterPostbyte_registerPostbyte hsize
    next hsize => exact decodeRegisterPostbyte_of_mixed_sizes hsize
  · exact decodeRegisterPostbyte_of_unassigned (h.imp Reg.ofCode_unassigned Reg.ofCode_unassigned)

/-- Settles O22: the first clauses say what the model computes; the frames are those of the operands. -/
theorem operandsAreReadAtTheirAddresses : Obligations.OperandsAreReadAtTheirAddresses := fun s _ _ _ _ _ m =>
  ⟨rfl, rfl, rfl, rfl, rfl, rfl, rfl, s.operand8_changes (.mem m), s.operand16_changes (.mem m)⟩

/-- Settles O23: the operation runs on the state in which the address was obtained. -/
theorem addressSideEffectsComeFirst : Obligations.AddressSideEffectsComeFirst := by
  refine ⟨fun s => ⟨_, exec_leax s _, rfl⟩, fun s => ⟨_, exec_ldx s _, rfl⟩,
    fun s hwf hram => ⟨_, exec_stx s _, ?moved, ?stored⟩, fun s hs => ?fromTheTop⟩
  case moved => exact (State.writeWord_changes _ _ _).2 .x (by simp)
  case stored => exact State.writeWord_bytesAt_of_ram (s := s.setX (s.x + 2#16)) hwf hram (s.x + 2#16)
  case fromTheTop =>
    rw [exec_lda, State.operand8_dec1_at_zero hs]
    exact ⟨_, rfl, (State.readByte_changes _ _).2 .s (by simp), rfl⟩

end Sys2Proof
end

section
/-! SUPPORT. Every instruction with an operand has the opcodes of its forms (30_encoding.md R105 to R107): the claims'
`memoryForms`, `operandForms8` and `operandForms16` from what the encoder writes. -/

namespace Sys2Proof

open Machine Claims

variable {page : List Byte} {op dir idx ext : Byte}

theorem decodesTo_of_encode {i : Instr} {bytes : List Byte} (hwf : i.wellFormed = true) (henc : encode i = bytes) :
    decodesTo bytes i := henc ▸ decodesTo_encode i hwf

theorem memoryForms_of_encode {k : MemOperand → Instr} (hwf : ∀ m, (k m).wellFormed = true)
    (henc : ∀ m, encode (k m) = encodeMem page dir idx ext m) : memoryForms k page dir idx ext := by
  have hdec (m : MemOperand) : decodesTo (encodeMem page dir idx ext m) (k m) := decodesTo_of_encode (hwf m) (henc m)
  refine ⟨fun off => hdec (.dir off), fun ix => hdec (.idx ix), fun h l => ?_⟩
  simpa only [encodeMem, highByte_joinBytes, lowByte_joinBytes] using hdec (.ext (joinBytes h l))

theorem operandForms8_of_encode {k : Operand8 → Instr} (hwf : ∀ o, (k o).wellFormed = true)
    (henc : ∀ o, encode (k o) = encodeOp8 page op o) :
    operandForms8 k page op (op + 0x10#8) (op + 0x20#8) (op + 0x30#8) :=
  ⟨fun v => decodesTo_of_encode (hwf (.imm v)) (henc (.imm v)),
    memoryForms_of_encode (fun m => hwf (.mem m)) fun m => henc (.mem m)⟩

theorem operandForms16_of_encode {k : Operand16 → Instr} (hwf : ∀ o, (k o).wellFormed = true)
    (henc : ∀ o, encode (k o) = encodeOp16 page op o) :
    operandForms16 k page op (op + 0x10#8) (op + 0x20#8) (op + 0x30#8) := by
  refine ⟨fun h l => ?_, memoryForms_of_encode (fun m => hwf (.mem m)) fun m => henc (.mem m)⟩
  simpa only [encodeOp16, highByte_joinBytes, lowByte_joinBytes] using
    decodesTo_of_encode (hwf (.imm (joinBytes h l))) (henc (.imm (joinBytes h l)))

/-- The refusal of a register postbyte refuses the instruction that has it (30_encoding.md R84). -/
theorem decode_registers_of_error {k : Reg → Reg → Instr} (h : OpcodeReads [] op (.regpb k)) {pb : Byte}
    {e : DecodeError} (he : decodeRegisterPostbyte pb = .error e) (rest : List Byte) :
    decode (op :: pb :: rest) = .error e := by
  refine (h (pb :: rest)).trans ?_
  rw [decodeShape, he]

end Sys2Proof
end

section
/-! SUPPORT. The loads and the stores (40_data_transfer.md R123, R131): N and Z from the value and V cleared, the bytes a
store leaves, and the claims' shapes `loads8` to `stores16` from the equation of one instruction. -/

namespace Sys2Proof.Machine

open Claims

/-! ## The flags N, Z, V of a value (10_state.md R39) -/

theorem State.setLogicFlags8_nzv (s : State) (v : Byte) : nzvAre (s.setLogicFlags8 v) v.msb (v == 0#8) false := by
  simp [nzvAre, State.setLogicFlags8, ccGet_logicFlags8]

theorem State.setLogicFlags16_nzv (s : State) (v : Word) : nzvAre (s.setLogicFlags16 v) v.msb (v == 0#16) false := by
  simp [nzvAre, State.setLogicFlags16, ccGet_logicFlags16]

theorem State.setLogicFlags8_changes (s : State) (v : Byte) : changesOnly nzv s (s.setLogicFlags8 v) := by
  refine s.setCC_changes _ nzv fun fl hfl => ?_
  rw [ccGet_logicFlags8]
  cases fl <;> simp [nzv] at hfl ⊢

theorem State.setLogicFlags16_changes (s : State) (v : Word) : changesOnly nzv s (s.setLogicFlags16 v) := by
  refine s.setCC_changes _ nzv fun fl hfl => ?_
  rw [ccGet_logicFlags16]
  cases fl <;> simp [nzv] at hfl ⊢

/-! ## Loads -/

/-- An instruction that sets one register to its operand and then the flags is a load. -/
theorem loads8_of_exec {k : Operand8 → Instr} {reg : Part} {get : State → Byte} {set : State → Byte → State}
    (hexec : ∀ op s, exec (k op) s = .next ((set (s.operand8 op).2 (s.operand8 op).1).setLogicFlags8 (s.operand8 op).1))
    (hget : ∀ s v, get ((set s v).setLogicFlags8 v) = v) (hset : ∀ s v, changesOnly [reg] s (set s v)) :
    loads8 k reg get := by
  intro op s
  refine ⟨_, hexec op s, hget _ _, ?flags,
    .of (s.operand8_changes op) ((hset _ _).trans (State.setLogicFlags8_changes _ _))⟩
  case flags =>
    rw [hget]
    exact State.setLogicFlags8_nzv _ _

/-- As `loads8_of_exec`, for a word. -/
theorem loads16_of_exec {k : Operand16 → Instr} {regs : List Part} {get : State → Word} {set : State → Word → State}
    (hexec : ∀ op s,
      exec (k op) s = .next ((set (s.operand16 op).2 (s.operand16 op).1).setLogicFlags16 (s.operand16 op).1))
    (hget : ∀ s v, get ((set s v).setLogicFlags16 v) = v) (hset : ∀ s v, changesOnly regs s (set s v)) :
    loads16 k regs get := by
  intro op s
  refine ⟨_, hexec op s, hget _ _, ?flags,
    .of (s.operand16_changes op) ((hset _ _).trans (State.setLogicFlags16_changes _ _))⟩
  case flags =>
    rw [hget]
    exact State.setLogicFlags16_nzv _ _

/-! ## Stores -/

theorem State.store8_stores (s : State) (ea : Word) (v : Byte) (h : s.mem.wf = true) :
    storesBytes s (s.store8 ea v) [(ea, v)] :=
  (s.writeByte_stores ea v h).congr ⟨rfl, rfl, rfl⟩ ⟨rfl, rfl⟩

theorem State.store16_stores (s : State) (ea v : Word) (h : s.mem.wf = true) :
    storesBytes s (s.store16 ea v) (wordBytes ea v) :=
  (s.writeWord_stores ea v h).congr ⟨rfl, rfl, rfl⟩ ⟨rfl, rfl⟩

theorem State.store8_changes (s : State) (ea : Word) (v : Byte) :
    changesOnly (.mem :: .devices :: nzv) s (s.store8 ea v) :=
  (s.writeByte_changes ea v).trans (State.setLogicFlags8_changes _ _)

theorem State.store16_changes (s : State) (ea v : Word) : changesOnly (.mem :: .devices :: nzv) s (s.store16 ea v) :=
  (s.writeWord_changes ea v).trans (State.setLogicFlags16_changes _ _)

/-- What was stored after an address was obtained keeps every other byte of the state before it too. -/
theorem storesBytes.keepsOutside {s u t : State} {l : List (Word × Byte)} (h : storesBytes u t l)
    (hmem : u.mem = s.mem) : keepsOutside s t l := by
  intro addr haddr
  rw [h.1 addr haddr, State.byteAt, hmem, State.byteAt]

/-- An instruction that obtains an address and then stores a register, as it then is, is a store. -/
theorem stores8_of_exec {k : MemOperand → Instr} {get : State → Byte}
    (hexec : ∀ m s, exec (k m) s = .next ((s.resolveEA m).2.store8 (s.resolveEA m).1 (get (s.resolveEA m).2))) :
    stores8 k get := by
  intro m s hwf
  have hstored := (s.resolveEA m).2.store8_stores (s.resolveEA m).1 (get (s.resolveEA m).2) (s.resolveEA_mem m ▸ hwf)
  exact ⟨_, hexec m s, hstored, hstored.keepsOutside (s.resolveEA_mem m), State.setLogicFlags8_nzv _ _,
    .of (s.resolveEA_changes m) (State.store8_changes _ _ _)⟩

/-- As `stores8_of_exec`, for a word. -/
theorem stores16_of_exec {k : MemOperand → Instr} {get : State → Word}
    (hexec : ∀ m s, exec (k m) s = .next ((s.resolveEA m).2.store16 (s.resolveEA m).1 (get (s.resolveEA m).2))) :
    stores16 k get := by
  intro m s hwf
  have hstored := (s.resolveEA m).2.store16_stores (s.resolveEA m).1 (get (s.resolveEA m).2) (s.resolveEA_mem m ▸ hwf)
  exact ⟨_, hexec m s, hstored, hstored.keepsOutside (s.resolveEA_mem m), State.setLogicFlags16_nzv _ _,
    .of (s.resolveEA_changes m) (State.store16_changes _ _ _)⟩

end Sys2Proof.Machine
end

section
/-! SUPPORT. The registers that EXG and TFR name (30_encoding.md R84): a read after a write to the same and to another
register, what a write changes, and when it arms NMI (60_exceptions.md R331). -/

namespace Sys2Proof.Machine

open Claims

/-! ## A read of the register written -/

@[simp] theorem State.getReg16_setReg16_same (s : State) (r : Reg16) (v : Word) : (s.setReg16 r v).getReg16 r = v := by
  cases r with
  | d => exact joinBytes_highByte_lowByte v
  | x | y | u | s | pc => rfl

@[simp] theorem State.getReg8_setReg8_same (s : State) (r : Reg8) (v : Byte) : (s.setReg8 r v).getReg8 r = v := by
  cases r <;> rfl

/-! ## What a write changes -/

theorem State.setReg16_changes (s : State) (r : Reg16) (v : Word) :
    changesOnly (.nmiArmed :: parts16 r) s (s.setReg16 r v) := by
  cases r with
  | d => exact (s.setD_changes v).mono (by simp [parts16])
  | x => exact (s.setX_changes v).mono (by simp [parts16])
  | y => exact (s.setY_changes v).mono (by simp [parts16])
  | u => exact (s.setU_changes v).mono (by simp [parts16])
  | s => exact (s.loadS_changes false v).mono (by simp [parts16])
  | pc => exact (s.setPC_changes v).mono (by simp [parts16])

theorem State.setReg8_changes (s : State) (r : Reg8) (v : Byte) : changesOnly (parts8 r) s (s.setReg8 r v) := by
  cases r with
  | a => exact s.setA_changes v
  | b => exact s.setB_changes v
  | cc => exact s.setCC_changes_flags v
  | dp => exact s.setDP_changes v

/-- A write of S by EXG or TFR arms NMI under `any_write_to_S`, and no other write does (60_exceptions.md R331). -/
theorem State.setReg16_armsIf (s : State) (r : Reg16) (v : Word) : armsIf (r == .s) s (s.setReg16 r v) := by
  cases r with
  | s => simp [armsIf, State.setReg16]
  | d | x | y | u | pc => exact (Bool.or_false _).symm

theorem armsIf.trans {s t u : State} {b c : Bool} (h1 : armsIf b s t) (h2 : armsIf c t u)
    (harming : t.nmiArming = s.nmiArming) : armsIf (b || c) s u := by
  unfold armsIf at *
  rw [h2, h1, harming, Bool.or_assoc, Bool.and_or_distrib_right]

/-! ## A read of another register -/

theorem changesOnly.getReg16 {ps : List Part} {s t : State} (h : changesOnly ps s t) {r : Reg16}
    (hr : ∀ p ∈ parts16 r, p ∉ ps) : t.getReg16 r = s.getReg16 r := by
  have kept (p : Part) (hp : p ∈ parts16 r) : p.same s t := h.2 p (hr p hp)
  cases r with
  | d => exact congrArg₂ joinBytes (kept .a (by simp [parts16])) (kept .b (by simp [parts16]))
  | x => exact kept .x (by simp [parts16])
  | y => exact kept .y (by simp [parts16])
  | u => exact kept .u (by simp [parts16])
  | s => exact kept .s (by simp [parts16])
  | pc => exact kept .pc (by simp [parts16])

theorem changesOnly.getReg8 {ps : List Part} {s t : State} (h : changesOnly ps s t) {r : Reg8}
    (hr : ∀ p ∈ parts8 r, p ∉ ps) : t.getReg8 r = s.getReg8 r := by
  have kept (p : Part) (hp : p ∈ parts8 r) : p.same s t := h.2 p (hr p hp)
  cases r with
  | a => exact kept .a (by simp [parts8])
  | b => exact kept .b (by simp [parts8])
  | cc => exact byte_eq_of_flags _ _ fun fl => kept (.flag fl) (by cases fl <;> simp [parts8, allFlags])
  | dp => exact kept .dp (by simp [parts8])

/-- Two registers of one size share no part. -/
theorem parts16_disjoint {p q : Reg16} (h : p ≠ q) : ∀ part ∈ parts16 p, part ∉ Part.nmiArmed :: parts16 q := by
  cases p <;> cases q <;> simp [parts16] at h ⊢

/-- As `parts16_disjoint`. -/
theorem parts8_disjoint {p q : Reg8} (h : p ≠ q) : ∀ part ∈ parts8 p, part ∉ parts8 q := by
  cases p <;> cases q <;> simp [parts8, allFlags] at h ⊢

theorem State.getReg16_setReg16_of_ne (s : State) {p q : Reg16} (h : p ≠ q) (v : Word) :
    (s.setReg16 q v).getReg16 p = s.getReg16 p :=
  (s.setReg16_changes q v).getReg16 (parts16_disjoint h)

theorem State.getReg8_setReg8_of_ne (s : State) {p q : Reg8} (h : p ≠ q) (v : Byte) :
    (s.setReg8 q v).getReg8 p = s.getReg8 p :=
  (s.setReg8_changes q v).getReg8 (parts8_disjoint h)

/-! ## EXG -/

/-- After EXG the first register holds what the second did, whether or not they are one register (40_data_transfer.md
R121). -/
theorem State.exchange16_getReg16 (s : State) (p q : Reg16) :
    ((s.setReg16 p (s.getReg16 q)).setReg16 q (s.getReg16 p)).getReg16 p = s.getReg16 q := by
  by_cases h : p = q
  · rw [h, State.getReg16_setReg16_same]
  · rw [State.getReg16_setReg16_of_ne _ h, State.getReg16_setReg16_same]

/-- As `State.exchange16_getReg16`. -/
theorem State.exchange8_getReg8 (s : State) (p q : Reg8) :
    ((s.setReg8 p (s.getReg8 q)).setReg8 q (s.getReg8 p)).getReg8 p = s.getReg8 q := by
  by_cases h : p = q
  · rw [h, State.getReg8_setReg8_same]
  · rw [State.getReg8_setReg8_of_ne _ h, State.getReg8_setReg8_same]

/-! ## What EXG and TFR do, as equations -/

theorem exec_exg16 (p q : Reg16) (s : State) :
    exec (.exg (.r16 p) (.r16 q)) s = .next ((s.setReg16 p (s.getReg16 q)).setReg16 q (s.getReg16 p)) := rfl

theorem exec_exg8 (p q : Reg8) (s : State) :
    exec (.exg (.r8 p) (.r8 q)) s = .next ((s.setReg8 p (s.getReg8 q)).setReg8 q (s.getReg8 p)) := rfl

theorem exec_tfr16 (p q : Reg16) (s : State) :
    exec (.tfr (.r16 p) (.r16 q)) s = .next (s.setReg16 q (s.getReg16 p)) := rfl

theorem exec_tfr8 (p q : Reg8) (s : State) : exec (.tfr (.r8 p) (.r8 q)) s = .next (s.setReg8 q (s.getReg8 p)) := rfl

end Sys2Proof.Machine
end

section
/-! SUPPORT. Data transfer (40_data_transfer.md): the loads, the stores, EXG and TFR. -/

namespace Sys2Proof

open Machine Claims

/-- Settles O25: each load sets its register from the operand, then N, Z and V; LDS is a load of S that arms NMI under
either `nmi_arming`. -/
theorem loadsSetRegisterAndFlags : Obligations.LoadsSetRegisterAndFlags := by
  refine ⟨⟨operandForms8_of_encode (fun _ => rfl) fun _ => rfl, ?lda⟩,
    ⟨operandForms8_of_encode (fun _ => rfl) fun _ => rfl, ?ldb⟩,
    ⟨operandForms16_of_encode (fun _ => rfl) fun _ => rfl, ?ldd⟩,
    ⟨operandForms16_of_encode (fun _ => rfl) fun _ => rfl, ?ldx⟩,
    ⟨operandForms16_of_encode (fun _ => rfl) fun _ => rfl, ?ldy⟩,
    ⟨operandForms16_of_encode (fun _ => rfl) fun _ => rfl, ?ldu⟩,
    operandForms16_of_encode (fun _ => rfl) fun _ => rfl, ?lds, ?arms⟩
  case lda => exact loads8_of_exec (fun op s => exec_lda s op) (fun _ _ => rfl) State.setA_changes
  case ldb => exact loads8_of_exec (fun op s => exec_ldb s op) (fun _ _ => rfl) State.setB_changes
  case ldd =>
    exact loads16_of_exec (fun op s => exec_ldd s op) (fun _ v => joinBytes_highByte_lowByte v) State.setD_changes
  case ldx => exact loads16_of_exec (fun op s => exec_ldx s op) (fun _ _ => rfl) State.setX_changes
  case ldy => exact loads16_of_exec (fun op s => exec_ldy s op) (fun _ _ => rfl) State.setY_changes
  case ldu => exact loads16_of_exec (fun op s => exec_ldu s op) (fun _ _ => rfl) State.setU_changes
  case lds => exact loads16_of_exec (fun op s => exec_lds s op) (fun _ _ => rfl) fun s v => s.loadS_changes true v
  case arms =>
    intro op s t hstep
    obtain rfl := Host.Outcome.next.inj ((exec_lds s op).symm.trans hstep)
    simp [State.setLogicFlags16]

/-- Settles O26: the address is obtained first, then the register as it then is goes there with its flags. -/
theorem storesWriteRegisterAndFlags : Obligations.StoresWriteRegisterAndFlags :=
  ⟨⟨memoryForms_of_encode (fun _ => rfl) fun _ => rfl, stores8_of_exec fun m s => exec_sta s m⟩,
    ⟨memoryForms_of_encode (fun _ => rfl) fun _ => rfl, stores8_of_exec fun m s => exec_stb s m⟩,
    ⟨memoryForms_of_encode (fun _ => rfl) fun _ => rfl, stores16_of_exec fun m s => exec_std s m⟩,
    ⟨memoryForms_of_encode (fun _ => rfl) fun _ => rfl, stores16_of_exec fun m s => exec_stx s m⟩,
    ⟨memoryForms_of_encode (fun _ => rfl) fun _ => rfl, stores16_of_exec fun m s => exec_sty s m⟩,
    ⟨memoryForms_of_encode (fun _ => rfl) fun _ => rfl, stores16_of_exec fun m s => exec_stu s m⟩,
    ⟨memoryForms_of_encode (fun _ => rfl) fun _ => rfl, stores16_of_exec fun m s => exec_sts s m⟩⟩

/-- Settles O27: both registers are read before either is written, and registers of one size share no part. -/
theorem exchangesAndTransfers : Obligations.ExchangesAndTransfers := by
  refine ⟨fun p q s => ⟨_, exec_exg16 p q s, s.exchange16_getReg16 p q, State.getReg16_setReg16_same _ q _, ?arms,
      ?frame16⟩,
    fun p q s => ⟨_, exec_exg8 p q s, s.exchange8_getReg8 p q, State.getReg8_setReg8_same _ q _, ?frame8⟩,
    fun p q s => ⟨_, exec_tfr16 p q s, s.getReg16_setReg16_same q _, s.setReg16_armsIf q _, s.setReg16_changes q _⟩,
    fun p q s => ⟨_, exec_tfr8 p q s, s.getReg8_setReg8_same q _, s.setReg8_changes q _⟩,
    fun r1 r2 s hmixed => ⟨exec_of_not_wellFormed (.exg r1 r2) s hmixed, exec_of_not_wellFormed (.tfr r1 r2) s hmixed⟩,
    fun r1 r2 hsize => ⟨decodesTo_encode (.exg r1 r2) hsize, decodesTo_encode (.tfr r1 r2) hsize⟩,
    fun pb rest e he =>
      ⟨decode_registers_of_error (fun _ => rfl) he rest, decode_registers_of_error (fun _ => rfl) he rest⟩⟩
  case arms => exact armsIf.trans (s.setReg16_armsIf p _) (State.setReg16_armsIf _ q _) (s.setReg16_changes p _).1.2.1
  case frame16 => exact (s.setReg16_changes p _).then (State.setReg16_changes _ q _) (by grind)
  case frame8 => exact (s.setReg8_changes p _).trans (State.setReg8_changes _ q _)

end Sys2Proof
end

section
/-! SUPPORT. The frame that PSHS, PSHU, PULS and PULU move (41_stack_push_pull.md R141, R142): the register each bit of a
postbyte names, its bytes, and the bytes of all the selected ones from the top of the stack up. -/

namespace Sys2Proof

open Machine Claims

/-! ## The register of a bit -/

/-- The other stack pointer, as a register (30_encoding.md R85). -/
def Machine.StackPtr.other : StackPtr → Reg16
  | .s => .u
  | .u => .s

/-- The piece of state a stack pointer is. -/
def Machine.StackPtr.part : StackPtr → Part
  | .s => .s
  | .u => .u

/-- The register that bit `n` of a postbyte selects (30_encoding.md R85). -/
def stackReg (p : StackPtr) : Nat → Reg
  | 0 => .r8 .cc
  | 1 => .r8 .a
  | 2 => .r8 .b
  | 3 => .r8 .dp
  | 4 => .r16 .x
  | 5 => .r16 .y
  | 6 => .r16 p.other
  | _ => .r16 .pc

/-- How many bytes a register has. -/
def Reg.width : Reg → Nat
  | .r8 _ => 1
  | .r16 _ => 2

/-- The pieces of state a register is made of. -/
def Reg.parts : Reg → List Part
  | .r8 r => parts8 r
  | .r16 r => parts16 r

theorem stackReg_width (p : StackPtr) (n : Nat) : (stackReg p n).width = if n < 4 then 1 else 2 := by
  match n with
  | 0 | 1 | 2 | 3 | 4 | 5 | 6 => rfl
  | n + 7 => exact (if_neg (by omega)).symm

/-- No register that a postbyte names shares a piece with the stack pointer it moves or with what an access touches. -/
theorem stackReg_parts_of_stack (p : StackPtr) :
    ∀ n < 8, ∀ q ∈ (stackReg p n).parts, q ∉ [p.part, .mem, .devices, .draws] := by
  cases p <;> decide

/-- S is named by bit 6 alone, where it is the other stack pointer. -/
theorem stackReg_beq_s (p : StackPtr) : ∀ n < 8, (stackReg p n == .r16 .s) = (n == 6 && p.other == .s) := by
  cases p <;> decide

/-- Two bits name registers that share nothing. -/
theorem stackReg_parts_of_ne (p : StackPtr) :
    ∀ i < 8, ∀ n < 8, i ≠ n → ∀ q ∈ (stackReg p i).parts, q ∉ Part.nmiArmed :: (stackReg p n).parts := by
  cases p <;> decide

namespace Machine

/-! ## The bytes of a register -/

/-- The bytes of a register as they lie in memory, high byte first. -/
def State.regBytes (s : State) : Reg → List Byte
  | .r8 r => [s.getReg8 r]
  | .r16 r => [highByte (s.getReg16 r), lowByte (s.getReg16 r)]

/-- A register loaded from its bytes. -/
def State.setRegBytes (s : State) (bs : List Byte) : Reg → State
  | .r8 r => s.setReg8 r (byteOf bs 0)
  | .r16 r => s.setReg16 r (wordOf bs 0)

@[simp] theorem State.regBytes_length (s : State) (r : Reg) : (s.regBytes r).length = r.width := by
  cases r <;> rfl

theorem State.regBytes_setRegBytes (s : State) {bs : List Byte} {r : Reg} (h : bs.length = r.width) :
    (s.setRegBytes bs r).regBytes r = bs := by
  cases r with
  | r8 r =>
    obtain ⟨v, rfl⟩ := List.length_eq_one_iff.1 h
    simp [State.regBytes, State.setRegBytes, byteOf]
  | r16 r =>
    obtain ⟨v, w, rfl⟩ := List.length_eq_two.1 h
    simp [State.regBytes, State.setRegBytes, wordOf, byteOf]

theorem State.setRegBytes_changes (s : State) (bs : List Byte) (r : Reg) :
    changesOnly (.nmiArmed :: r.parts) s (s.setRegBytes bs r) := by
  cases r with
  | r8 r => exact (s.setReg8_changes r _).mono fun _ hq => List.mem_cons_of_mem _ hq
  | r16 r => exact s.setReg16_changes r _

theorem State.setRegBytes_armsIf (s : State) (bs : List Byte) (r : Reg) :
    armsIf (r == .r16 .s) s (s.setRegBytes bs r) := by
  cases r with
  | r8 r => cases r <;> exact (Bool.or_false _).symm
  | r16 r => cases r <;> exact s.setReg16_armsIf _ (wordOf bs 0)

theorem changesOnly.regBytes {ps : List Part} {s t : State} (h : changesOnly ps s t) {r : Reg}
    (hr : ∀ q ∈ r.parts, q ∉ ps) : t.regBytes r = s.regBytes r := by
  cases r with
  | r8 r => simp only [State.regBytes, h.getReg8 hr]
  | r16 r => simp only [State.regBytes, h.getReg16 hr]

/-- A register whose bytes are the same is the same in each of its pieces. -/
theorem Part.same_of_regBytes {s t : State} {r : Reg} (h : t.regBytes r = s.regBytes r) {q : Part} (hq : q ∈ r.parts) :
    q.same s t := by
  cases r with
  | r8 r =>
    have heq : t.getReg8 r = s.getReg8 r := List.singleton_inj.1 h
    cases r <;> simp only [Reg.parts, parts8, List.mem_singleton] at hq
    case cc =>
      have hcc : t.cc = s.cc := heq
      cases q <;> simp_all [Part.same, allFlags]
    all_goals subst hq; exact heq
  | r16 r =>
    have heq : t.getReg16 r = s.getReg16 r := by
      rw [← joinBytes_highByte_lowByte (t.getReg16 r), ← joinBytes_highByte_lowByte (s.getReg16 r)]
      simp_all [State.regBytes]
    cases r <;> simp only [Reg.parts, parts16, List.mem_cons, List.not_mem_nil, or_false] at hq
    case d =>
      have ha := congrArg highByte heq
      have hb := congrArg lowByte heq
      simp only [State.getReg16, State.d, highByte_joinBytes, lowByte_joinBytes] at ha hb
      rcases hq with rfl | rfl <;> assumption
    all_goals subst hq; exact heq

/-! ## The frame -/

/-- The registers of the set bits below `n`, from the top of the stack up (41_stack_push_pull.md R142). -/
def State.stackFrame (s : State) (p : StackPtr) (pb : Byte) : Nat → List Byte
  | 0 => []
  | n + 1 => s.stackFrame p pb n ++ pick (pb.getLsbD n) (s.regBytes (stackReg p n))

@[simp] theorem pick_true {α : Type} (l : List α) : pick true l = l := rfl

@[simp] theorem pick_false {α : Type} (l : List α) : pick false l = [] := rfl

theorem mem_pick {α : Type} {b : Bool} {l : List α} {q : α} : q ∈ pick b l ↔ b = true ∧ q ∈ l := by
  cases b <;> simp

theorem reverse_pick {α : Type} (b : Bool) (l : List α) : (pick b l).reverse = pick b l.reverse := by
  cases b <;> rfl

@[simp] theorem State.stackFrame_length (s : State) (p : StackPtr) (pb : Byte) (n : Nat) :
    (s.stackFrame p pb n).length = pullOffset pb n := by
  induction n with
  | zero => rfl
  | succ n ih =>
    rw [State.stackFrame, List.length_append, ih, pullOffset]
    cases pb.getLsbD n <;> simp [stackReg_width]

theorem pullOffset_eight_le (pb : Byte) : pullOffset pb 8 ≤ 12 := by
  simp only [pullOffset]
  grind

/-- What a push instruction stores is the frame, its last byte first (41_stack_push_pull.md R142). -/
theorem pushImage_eq_reverse_stackFrame (s : State) (p : StackPtr) (pb : Byte) :
    pushImage s (s.getReg16 p.other) pb = (s.stackFrame p pb 8).reverse := by
  simp [pushImage, State.stackFrame, reverse_pick, State.regBytes, stackReg, State.getReg8, State.getReg16]

/-- The frame is kept where all its registers are. -/
theorem changesOnly.stackFrame {ps : List Part} {s t : State} (h : changesOnly ps s t) {p : StackPtr} (pb : Byte)
    {n : Nat} (hn : ∀ i < n, ∀ q ∈ (stackReg p i).parts, q ∉ ps) : t.stackFrame p pb n = s.stackFrame p pb n := by
  induction n with
  | zero => rfl
  | succ n ih =>
    rw [State.stackFrame, State.stackFrame, ih fun i hi => hn i (by omega), h.regBytes (hn n (by omega))]

/-- A selected register lies in the frame above those of the lower bits. -/
theorem State.regBytes_eq_of_stackFrame (s : State) (p : StackPtr) (pb : Byte) {i n : Nat} (hi : i < n)
    (hsel : pb.getLsbD i = true) :
    s.regBytes (stackReg p i) = ((s.stackFrame p pb n).drop (pullOffset pb i)).take (stackReg p i).width := by
  induction n, hi using Nat.le_induction with
  | base =>
    rw [State.stackFrame, hsel, List.drop_left' (s.stackFrame_length p pb i), pick_true,
      List.take_of_length_le (s.regBytes_length _).le]
  | succ n hi ih =>
    have hbelow : pullOffset pb i + (stackReg p i).width ≤ (s.stackFrame p pb n).length := by
      have hlen := congrArg List.length ih
      rw [s.regBytes_length, List.length_take, List.length_drop] at hlen
      have hpos : 0 < (stackReg p i).width := by cases stackReg p i <;> exact Nat.succ_pos _
      omega
    rw [State.stackFrame, List.drop_append_of_le_length (by omega),
      List.take_append_of_le_length (by rw [List.length_drop]; omega), ← ih]

theorem State.getReg8_eq_byteOf_stackFrame (s : State) (p : StackPtr) (pb : Byte) (i : Nat) {r : Reg8} (hi : i < 8)
    (hr : stackReg p i = .r8 r) (hsel : pb.getLsbD i = true) :
    s.getReg8 r = byteOf (s.stackFrame p pb 8) (pullOffset pb i) := by
  have h := s.regBytes_eq_of_stackFrame p pb hi hsel
  rw [hr] at h
  have h0 := congrArg (byteOf · 0) h
  simpa [byteOf, State.regBytes, Reg.width, List.getElem?_take, List.getElem?_drop] using h0

theorem State.getReg16_eq_wordOf_stackFrame (s : State) (p : StackPtr) (pb : Byte) (i : Nat) {r : Reg16} (hi : i < 8)
    (hr : stackReg p i = .r16 r) (hsel : pb.getLsbD i = true) :
    s.getReg16 r = wordOf (s.stackFrame p pb 8) (pullOffset pb i) := by
  have h := s.regBytes_eq_of_stackFrame p pb hi hsel
  rw [hr] at h
  have h0 := congrArg (wordOf · 0) h
  simpa [wordOf, byteOf, State.regBytes, Reg.width, List.getElem?_take, List.getElem?_drop] using h0

end Machine

end Sys2Proof
end

section
/-! SUPPORT. Bytes pushed one after the other (00_scope.md R11): where they go, and what a push of registers is in their
terms (41_stack_push_pull.md R142 to R144). -/

namespace Sys2Proof.Machine

open Claims

/-! ## Bytes in a row -/

/-- The bytes pushed, each below the one before. -/
def State.pushBytes (s : State) (p : StackPtr) : List Byte → State
  | [] => s
  | v :: vs => (s.push8 p v).pushBytes p vs

theorem State.pushBytes_append (s : State) (p : StackPtr) (l1 l2 : List Byte) :
    s.pushBytes p (l1 ++ l2) = (s.pushBytes p l1).pushBytes p l2 := by
  induction l1 generalizing s with
  | nil => rfl
  | cons v vs ih => exact ih (s.push8 p v)

theorem State.setSP_changes (s : State) (p : StackPtr) (v : Word) : changesOnly [p.part] s (s.setSP p v) := by
  cases p
  · exact s.setS_changes v
  · exact s.setU_changes v

@[simp] theorem State.setSP_mem (s : State) (p : StackPtr) (v : Word) : (s.setSP p v).mem = s.mem := by
  cases p <;> rfl

@[simp] theorem State.setSP_memMap (s : State) (p : StackPtr) (v : Word) : (s.setSP p v).memMap = s.memMap := by
  cases p <;> rfl

theorem State.push8_changes (s : State) (p : StackPtr) (v : Byte) :
    changesOnly [p.part, .mem, .devices] s (s.push8 p v) :=
  (s.setSP_changes p _).trans (State.writeByte_changes _ _ _)

theorem State.pushBytes_changes (s : State) (p : StackPtr) (l : List Byte) :
    changesOnly [p.part, .mem, .devices] s (s.pushBytes p l) := by
  induction l generalizing s with
  | nil => exact (changesOnly_refl s).mono (by simp)
  | cons v vs ih => exact (s.push8_changes p v).then (ih _) (by simp)

theorem State.pushBytes_getSP (s : State) (p : StackPtr) (l : List Byte) :
    (s.pushBytes p l).getSP p = s.getSP p - BitVec.ofNat 16 l.length := by
  induction l generalizing s with
  | nil => simp [State.pushBytes]
  | cons v vs ih =>
    rw [State.pushBytes, ih, State.push8_getSP, List.length_cons]
    bv_omega

/-- Pushed bytes lie at the addresses just below the stack pointer. -/
theorem address_of_mem_pushedBytes {sp : Word} {l : List Byte} {q : Word × Byte} (h : q ∈ pushedBytes sp l) :
    ∃ k < l.length, q.1 = sp - BitVec.ofNat 16 (k + 1) := by
  induction l generalizing sp with
  | nil => exact absurd h List.not_mem_nil
  | cons v vs ih =>
    rcases List.mem_cons.1 h with rfl | h
    · exact ⟨0, Nat.succ_pos _, rfl⟩
    · obtain ⟨k, hk, hq⟩ := ih h
      exact ⟨k + 1, Nat.succ_lt_succ hk, by bv_omega⟩

theorem State.push8_stores (s : State) (p : StackPtr) (v : Byte) (h : s.mem.wf = true) :
    storesBytes s (s.push8 p v) [(s.getSP p - 1#16, v)] :=
  (State.writeByte_stores _ _ v (by rwa [State.setSP_mem])).congr (by simp) ⟨rfl, rfl⟩

/-- Up to 65,536 bytes pushed do not meet, so all are stored. -/
theorem State.pushBytes_stores (s : State) (p : StackPtr) (l : List Byte) (hlen : l.length ≤ 65536)
    (h : s.mem.wf = true) : storesBytes s (s.pushBytes p l) (pushedBytes (s.getSP p) l) := by
  induction l generalizing s with
  | nil => exact storesBytes_nil rfl rfl
  | cons v vs ih =>
    rw [List.length_cons] at hlen
    have hrest := ih (s.push8 p v) (by omega) ((Evolves.push8 s p v).wf h)
    rw [State.push8_getSP] at hrest
    refine (s.push8_stores p v h).append hrest (Evolves.push8 s p v).memMap fun q hq q' hq' => ?differ
    obtain rfl := List.mem_singleton.1 hq
    obtain ⟨k, hk, haddr⟩ := address_of_mem_pushedBytes hq'
    rw [haddr]
    bv_omega

/-! ## The pushes of a postbyte -/

theorem State.push8If_eq (s : State) (b : Bool) (p : StackPtr) (v : Byte) :
    s.push8If b p v = s.pushBytes p (pick b [v]) := by
  cases b <;> rfl

theorem State.push16If_eq (s : State) (b : Bool) (p : StackPtr) (v : Word) :
    s.push16If b p v = s.pushBytes p (pick b [lowByte v, highByte v]) := by
  cases b <;> rfl

/-- The pushes of the bits below `n`, highest first (41_stack_push_pull.md R142). -/
def State.pushBelow (s : State) (p : StackPtr) (pb : Byte) : Nat → State
  | 0 => s
  | n + 1 => (s.pushBytes p (pick (pb.getLsbD n) (s.regBytes (stackReg p n)).reverse)).pushBelow p pb n

/-- A push leaves the registers of the frame alone, so each is pushed as it was before the instruction. -/
theorem State.pushBelow_eq (s : State) (p : StackPtr) (pb : Byte) {n : Nat} (hn : n ≤ 8) :
    s.pushBelow p pb n = s.pushBytes p (s.stackFrame p pb n).reverse := by
  induction n generalizing s with
  | zero => rfl
  | succ n ih =>
    have hkept := (s.pushBytes_changes p (pick (pb.getLsbD n) (s.regBytes (stackReg p n)).reverse)).stackFrame pb
      (n := n) fun i hi q hq hmem => stackReg_parts_of_stack p i (by omega) q hq (by grind)
    rw [State.pushBelow, ih _ (by omega), hkept, ← State.pushBytes_append, State.stackFrame, List.reverse_append,
      reverse_pick]

theorem State.pushRegisters_eq_pushBelow (s : State) (p : StackPtr) (pb : Byte) :
    s.pushRegisters p pb = s.pushBelow p pb 8 := by
  simp only [State.pushRegisters, State.push8If_eq, State.push16If_eq]
  cases p <;> rfl

/-- A push of registers pushes the bytes of the frame, the last one first. -/
theorem State.pushRegisters_eq (s : State) (p : StackPtr) (pb : Byte) :
    s.pushRegisters p pb = s.pushBytes p (s.stackFrame p pb 8).reverse := by
  rw [State.pushRegisters_eq_pushBelow, State.pushBelow_eq s p pb (Nat.le_refl 8)]

theorem State.pushRegisters_changes (s : State) (p : StackPtr) (pb : Byte) :
    changesOnly [p.part, .mem, .devices] s (s.pushRegisters p pb) :=
  s.pushRegisters_eq p pb ▸ s.pushBytes_changes p _

theorem State.pushRegisters_getSP (s : State) (p : StackPtr) (pb : Byte) :
    (s.pushRegisters p pb).getSP p = s.getSP p - BitVec.ofNat 16 (pullOffset pb 8) := by
  rw [State.pushRegisters_eq, State.pushBytes_getSP, List.length_reverse, State.stackFrame_length]

theorem State.pushRegisters_stores (s : State) (p : StackPtr) (pb : Byte) (h : s.mem.wf = true) :
    storesBytes s (s.pushRegisters p pb) (pushedBytes (s.getSP p) (s.stackFrame p pb 8).reverse) := by
  rw [State.pushRegisters_eq]
  refine s.pushBytes_stores p _ ?_ h
  rw [List.length_reverse, State.stackFrame_length]
  exact (pullOffset_eight_le pb).trans (by decide)

/-- An instruction that pushes the registers of its postbyte is a push on that stack. -/
theorem pushes_of_exec {k : Byte → Instr} {p : StackPtr}
    (hexec : ∀ pb s, exec (k pb) s = .next (s.pushRegisters p pb)) :
    pushes k p p.part fun s => s.getReg16 p.other := by
  intro pb s hwf
  rw [pushImage_eq_reverse_stackFrame, List.length_reverse, State.stackFrame_length]
  exact ⟨_, hexec pb s, s.pushRegisters_getSP p pb, s.pushRegisters_stores p pb hwf, s.pushRegisters_changes p pb⟩

end Sys2Proof.Machine
end

section
/-! SUPPORT. Pulls (00_scope.md R11): reads in a row from the stack pointer up, and what a pull of registers leaves in
each of them (41_stack_push_pull.md R142, R145, R146). -/

namespace Sys2Proof.Machine

open Claims

/-! ## Reads in a row -/

theorem State.readBytes_length (n : Nat) : ∀ (s : State) (a : Word), (s.readBytes a n).1.length = n := by
  induction n with
  | zero => exact fun _ _ => rfl
  | succ n ih => exact fun s a => congrArg (· + 1) (ih _ _)

theorem State.readBytes_add (m n : Nat) (s : State) (a : Word) :
    s.readBytes a (m + n) =
      ((s.readBytes a m).1 ++ ((s.readBytes a m).2.readBytes (a + BitVec.ofNat 16 m) n).1,
        ((s.readBytes a m).2.readBytes (a + BitVec.ofNat 16 m) n).2) := by
  induction m generalizing s a with
  | zero => simp [State.readBytes]
  | succ m ih =>
    have haddr : a + 1#16 + BitVec.ofNat 16 m = a + BitVec.ofNat 16 (m + 1) := by bv_omega
    simp only [Nat.add_right_comm m 1 n, State.readBytes, ih, haddr, List.cons_append]

/-- What a read depends on and what it touches are the same in both states (20_memory.md R54). -/
structure SameBus (s t : State) : Prop where
  kinds : t.memMap = s.memMap
  content : ∀ a, t.byteAt a = s.byteAt a
  log : t.deviceLog = s.deviceLog
  draws : t.draws = s.draws

theorem changesOnly.sameBus {ps : List Part} {s t : State} (h : changesOnly ps s t)
    (hps : ∀ q ∈ [Part.mem, .devices, .draws], q ∉ ps) : SameBus s t :=
  ⟨h.1.1, h.2 .mem (hps _ (by simp)), h.2 .devices (hps _ (by simp)), h.2 .draws (hps _ (by simp))⟩

theorem SameBus.trans {s t u : State} (h1 : SameBus s t) (h2 : SameBus t u) : SameBus s u :=
  ⟨h2.kinds.trans h1.kinds, fun a => (h2.content a).trans (h1.content a), h2.log.trans h1.log, h2.draws.trans h1.draws⟩

/-- States that agree on the bus answer a read alike and agree on the bus after it. -/
theorem SameBus.readByte {s t : State} (h : SameBus s t) (a : Word) :
    (t.readByte a).1 = (s.readByte a).1 ∧ SameBus (s.readByte a).2 (t.readByte a).2 := by
  have hkind : t.kindAt a = s.kindAt a := by simp only [State.kindAt, h.kinds]
  obtain ⟨hkinds, hcontent, hlog, hdraws⟩ := h
  simp only [State.readByte, hkind]
  cases s.kindAt a with
  | ram | rom => exact ⟨hcontent a, hkinds, hcontent, hlog, hdraws⟩
  | empty => exact ⟨by rw [hdraws], hkinds, hcontent, hlog, congrArg (· + 1) hdraws⟩
  | device => exact ⟨by rw [hdraws], hkinds, hcontent, by simp only [hlog, hdraws], congrArg (· + 1) hdraws⟩

theorem SameBus.readBytes {s t : State} (h : SameBus s t) (a : Word) (n : Nat) :
    (t.readBytes a n).1 = (s.readBytes a n).1 ∧ SameBus (s.readBytes a n).2 (t.readBytes a n).2 := by
  induction n generalizing s t a with
  | zero => exact ⟨rfl, h⟩
  | succ n ih =>
    obtain ⟨hv, hbus⟩ := h.readByte a
    obtain ⟨hvs, hbus'⟩ := ih hbus (a + 1#16)
    exact ⟨congrArg₂ List.cons hv hvs, hbus'⟩

theorem changesOnly.getSP {ps : List Part} {s t : State} (h : changesOnly ps s t) {p : StackPtr} (hp : p.part ∉ ps) :
    t.getSP p = s.getSP p := by
  cases p <;> exact h.2 _ hp

/-- What leaves `nmi_armed` alone arms nothing (60_exceptions.md R331). -/
theorem changesOnly.armsIf_false {ps : List Part} {s t : State} (h : changesOnly ps s t) (hps : Part.nmiArmed ∉ ps) :
    armsIf false s t :=
  (h.2 .nmiArmed hps).trans (Bool.or_false _).symm

theorem State.readByte_getSP (s : State) (a : Word) (p : StackPtr) : (s.readByte a).2.getSP p = s.getSP p :=
  (s.readByte_changes a).getSP (by cases p <;> simp [StackPtr.part])

theorem State.readByte_setSP (s : State) (p : StackPtr) (a v : Word) :
    (s.setSP p v).readByte a = ((s.readByte a).1, (s.readByte a).2.setSP p v) := by
  unfold State.readByte
  rw [State.setSP_kindAt]
  cases p <;> split <;> rfl

/-! ## One register pulled -/

/-- A register pulled: its bytes read from the stack pointer up, the pointer moved past them, the register loaded. -/
def State.pullReg (s : State) (p : StackPtr) (r : Reg) : State :=
  ((s.readBytes (s.getSP p) r.width).2.setSP p (s.getSP p + BitVec.ofNat 16 r.width)).setRegBytes
    (s.readBytes (s.getSP p) r.width).1 r

theorem State.pull8_eq (s : State) (p : StackPtr) :
    s.pull8 p = ((s.readByte (s.getSP p)).1, (s.readByte (s.getSP p)).2.setSP p (s.getSP p + 1#16)) := by
  simp only [State.pull8, State.readByte_getSP]

theorem State.setSP_setSP (s : State) (p : StackPtr) (v w : Word) : (s.setSP p v).setSP p w = s.setSP p w := by
  cases p <;> rfl

theorem State.pull16_eq (s : State) (p : StackPtr) :
    s.pull16 p = (wordOf (s.readBytes (s.getSP p) 2).1 0, (s.readBytes (s.getSP p) 2).2.setSP p (s.getSP p + 2#16)) := by
  have htwo : s.getSP p + 1#16 + 1#16 = s.getSP p + 2#16 := by bv_omega
  simp only [State.pull16, State.pull8_eq, State.getSP_setSP, State.readByte_setSP, State.setSP_setSP, htwo]
  rfl

theorem State.pull8If_eq (s : State) (b : Bool) (p : StackPtr) (r : Reg8) :
    s.pull8If b p (fun t v => t.setReg8 r v) = if b then s.pullReg p (.r8 r) else s := by
  rw [State.pull8If, State.pull8_eq]
  rfl

theorem State.pull16If_eq (s : State) (b : Bool) (p : StackPtr) (r : Reg16) :
    s.pull16If b p (fun t v => t.setReg16 r v) = if b then s.pullReg p (.r16 r) else s := by
  rw [State.pull16If, State.pull16_eq]
  rfl

section
variable {p : StackPtr} {r : Reg}

/-- Before its register is loaded a pull touches the stack pointer and what a read touches. -/
theorem State.pullReg_pointer_changes (s : State) (p : StackPtr) (r : Reg) :
    changesOnly [p.part, .devices, .draws] s
      ((s.readBytes (s.getSP p) r.width).2.setSP p (s.getSP p + BitVec.ofNat 16 r.width)) :=
  (State.readBytes_changes _ s _).then (State.setSP_changes _ p _) (by simp)

theorem State.pullReg_changes (s : State) (p : StackPtr) (r : Reg) :
    changesOnly (.nmiArmed :: p.part :: .devices :: .draws :: r.parts) s (s.pullReg p r) :=
  (s.pullReg_pointer_changes p r).then (State.setRegBytes_changes _ _ r) (by grind)

theorem State.pullReg_armsIf (s : State) (p : StackPtr) (r : Reg) : armsIf (r == .r16 .s) s (s.pullReg p r) := by
  have hpointer := s.pullReg_pointer_changes p r
  have hkept := hpointer.armsIf_false (by cases p <;> simp [StackPtr.part])
  exact Bool.false_or (r == .r16 .s) ▸ armsIf.trans hkept (State.setRegBytes_armsIf _ _ r) hpointer.1.2.1

theorem State.regBytes_pullReg (s : State) (p : StackPtr) (r : Reg) :
    (s.pullReg p r).regBytes r = (s.readBytes (s.getSP p) r.width).1 :=
  State.regBytes_setRegBytes _ (State.readBytes_length _ _ _)

theorem State.pullReg_getSP (s : State) (hr : ∀ q ∈ r.parts, q ∉ [p.part, .mem, .devices, .draws]) :
    (s.pullReg p r).getSP p = s.getSP p + BitVec.ofNat 16 r.width := by
  rw [State.pullReg, (State.setRegBytes_changes _ _ r).getSP, State.getSP_setSP]
  have hne : p.part ≠ .nmiArmed := by cases p <;> simp [StackPtr.part]
  grind

theorem State.pullReg_sameBus (s : State) (hr : ∀ q ∈ r.parts, q ∉ [p.part, .mem, .devices, .draws]) :
    SameBus (s.readBytes (s.getSP p) r.width).2 (s.pullReg p r) :=
  (changesOnly.sameBus (State.setSP_changes _ p _) (by cases p <;> simp [StackPtr.part])).trans
    ((State.setRegBytes_changes _ _ r).sameBus (by grind))

end

/-! ## The pulls of a postbyte -/

/-- The pulls of the bits below `n`, lowest first (41_stack_push_pull.md R142). -/
def State.pullBelow (s : State) (p : StackPtr) (pb : Byte) : Nat → State
  | 0 => s
  | n + 1 => if pb.getLsbD n then (s.pullBelow p pb n).pullReg p (stackReg p n) else s.pullBelow p pb n

theorem State.pullRegisters_eq_pullBelow (s : State) (p : StackPtr) (pb : Byte) :
    s.pullRegisters p pb = s.pullBelow p pb 8 := by
  simp only [State.pullBelow, stackReg, ← State.pull8If_eq, ← State.pull16If_eq]
  cases p <;> rfl

/-- The pieces of state the set bits below `n` name. -/
def pulledParts (p : StackPtr) (pb : Byte) : Nat → List Part
  | 0 => []
  | n + 1 => pulledParts p pb n ++ pick (pb.getLsbD n) (stackReg p n).parts

/-- Whether the set bits below `n` load S, which is then the other stack pointer (60_exceptions.md R331). -/
def pulledLoadsS (p : StackPtr) (pb : Byte) : Nat → Bool
  | 0 => false
  | n + 1 => pulledLoadsS p pb n || (pb.getLsbD n && stackReg p n == .r16 .s)

/-- What the pulls of the bits below `n` have done: as many reads from the stack pointer up as those registers have bytes,
and the registers hold what was read. -/
structure Pulled (s : State) (p : StackPtr) (pb : Byte) (n : Nat) (t : State) : Prop where
  pointer : t.getSP p = s.getSP p + BitVec.ofNat 16 (pullOffset pb n)
  bus : SameBus (s.readBytes (s.getSP p) (pullOffset pb n)).2 t
  loaded : t.stackFrame p pb n = (s.readBytes (s.getSP p) (pullOffset pb n)).1
  arms : armsIf (pulledLoadsS p pb n) s t
  frame : changesOnly (.nmiArmed :: p.part :: .devices :: .draws :: pulledParts p pb n) s t

theorem Pulled.zero (s : State) (p : StackPtr) (pb : Byte) : Pulled s p pb 0 s where
  pointer := (BitVec.add_zero _).symm
  bus := ⟨rfl, fun _ => rfl, rfl, rfl⟩
  loaded := rfl
  arms := (changesOnly_refl s).armsIf_false List.not_mem_nil
  frame := (changesOnly_refl s).mono (by simp)

/-- A bit that is not set adds nothing. -/
theorem Pulled.skip {s t : State} {p : StackPtr} {pb : Byte} {n : Nat} (h : Pulled s p pb n t)
    (hsel : pb.getLsbD n = false) : Pulled s p pb (n + 1) t := by
  have hoffset : pullOffset pb (n + 1) = pullOffset pb n := by simp [pullOffset, hsel]
  obtain ⟨hpointer, hbus, hloaded, harms, hframe⟩ := h
  constructor
  case pointer => rwa [hoffset]
  case bus => rwa [hoffset]
  case loaded => rwa [hoffset, State.stackFrame, hsel, pick_false, List.append_nil]
  case arms => rwa [pulledLoadsS, hsel, Bool.false_and, Bool.or_false]
  case frame => rwa [pulledParts, hsel, pick_false, List.append_nil]

/-- A set bit adds its register, which none of the lower bits names. -/
theorem Pulled.pull {s t : State} {p : StackPtr} {pb : Byte} {n : Nat} (h : Pulled s p pb n t) (hn : n < 8)
    (hsel : pb.getLsbD n = true) : Pulled s p pb (n + 1) (t.pullReg p (stackReg p n)) := by
  have hr := stackReg_parts_of_stack p n hn
  have hoffset : pullOffset pb (n + 1) = pullOffset pb n + (stackReg p n).width := by
    simp [pullOffset, hsel, stackReg_width]
  obtain ⟨hpointer, hbus, hloaded, harms, hframe⟩ := h
  obtain ⟨hbytes, hbus'⟩ := hbus.readBytes (t.getSP p) (stackReg p n).width
  have hchanges := t.pullReg_changes p (stackReg p n)
  have hkept : (t.pullReg p (stackReg p n)).stackFrame p pb n = t.stackFrame p pb n := by
    refine hchanges.stackFrame pb fun i hi q hq => ?_
    have hstack := stackReg_parts_of_stack p i (by omega) q hq
    have hother := stackReg_parts_of_ne p i (by omega) n hn (by omega) q hq
    grind
  constructor
  case pointer =>
    rw [t.pullReg_getSP hr, hpointer, hoffset, BitVec.add_assoc, BitVec.ofNat_add]
  case bus =>
    rw [hoffset, State.readBytes_add, ← hpointer]
    exact hbus'.trans (t.pullReg_sameBus hr)
  case loaded =>
    rw [State.stackFrame, hkept, hsel, pick_true, State.regBytes_pullReg, hbytes, hloaded, hoffset, State.readBytes_add,
      ← hpointer]
  case arms =>
    rw [pulledLoadsS, hsel, Bool.true_and]
    exact armsIf.trans harms (t.pullReg_armsIf p _) hframe.1.2.1
  case frame =>
    rw [pulledParts, hsel, pick_true]
    exact hframe.then hchanges (by grind)

theorem State.pullBelow_pulled (s : State) (p : StackPtr) (pb : Byte) {n : Nat} (hn : n ≤ 8) :
    Pulled s p pb n (s.pullBelow p pb n) := by
  induction n with
  | zero => exact .zero s p pb
  | succ n ih =>
    have hbelow := ih (by omega)
    rw [State.pullBelow]
    cases hsel : pb.getLsbD n with
    | false => exact hbelow.skip hsel
    | true => exact hbelow.pull (by omega) hsel

theorem State.pullRegisters_pulled (s : State) (p : StackPtr) (pb : Byte) : Pulled s p pb 8 (s.pullRegisters p pb) :=
  s.pullRegisters_eq_pullBelow p pb ▸ s.pullBelow_pulled p pb (Nat.le_refl 8)

/-- S is loaded by bit 6 where it is the other stack pointer, and by no other bit. -/
theorem pulledLoadsS_eight (p : StackPtr) (pb : Byte) : pulledLoadsS p pb 8 = (p.other == .s && pb.getLsbD 6) := by
  simp [pulledLoadsS, stackReg_beq_s, Bool.and_comm]

theorem changesOnly.of_not_arming {ps : List Part} {s t : State} (h : changesOnly (.nmiArmed :: ps) s t)
    (harms : armsIf false s t) : changesOnly ps s t := by
  refine ⟨h.1, fun q hq => ?_⟩
  by_cases hnmi : q = .nmiArmed
  · exact hnmi ▸ harms.trans (Bool.or_false _)
  · exact h.2 q (by simp [hnmi, hq])

/-- The pieces a pull of a whole postbyte names, in the claim's words; `otherParts` are those of the other stack
pointer. -/
theorem pulledParts_eight_subset {p : StackPtr} (pb : Byte) {otherParts : List Part}
    (hother : parts16 p.other ⊆ otherParts) :
    pulledParts p pb 8 ⊆ pick (pb.getLsbD 0) allFlags ++ pick (pb.getLsbD 1) [.a] ++ pick (pb.getLsbD 2) [.b] ++
      pick (pb.getLsbD 3) [.dp] ++ pick (pb.getLsbD 4) [.x] ++ pick (pb.getLsbD 5) [.y] ++
      pick (pb.getLsbD 6) otherParts ++ pick (pb.getLsbD 7) [.pc] := by
  intro q hq
  rcases List.mem_append.1 (show q ∈ pulledParts p pb 7 ++ pick (pb.getLsbD 7) [.pc] from hq) with hlow | hpc
  · rcases List.mem_append.1 (show q ∈ pulledParts p pb 6 ++ pick (pb.getLsbD 6) (parts16 p.other) from hlow) with
      hlow | hptr
    · exact List.mem_append_left _ (List.mem_append_left _ hlow)
    · obtain ⟨hsel, hptr⟩ := mem_pick.1 hptr
      exact List.mem_append_left _ (List.mem_append_right _ (mem_pick.2 ⟨hsel, hother hptr⟩))
  · exact List.mem_append_right _ hpc

/-- An instruction that pulls the registers of its postbyte is a pull from that stack; where the other stack pointer is S,
pulling it is a load of S (60_exceptions.md R331). -/
theorem pulls_of_exec {k : Byte → Instr} {p : StackPtr} {otherParts : List Part}
    (hexec : ∀ pb s, exec (k pb) s = .next (s.pullRegisters p pb)) (hother : parts16 p.other ⊆ otherParts)
    (harming : p.other = .s → Part.nmiArmed ∈ otherParts) :
    pulls k p p.part (fun s => s.getReg16 p.other) otherParts (p.other == .s) := by
  intro pb s
  obtain ⟨hpointer, hbus, hloaded, harms, hframe⟩ := s.pullRegisters_pulled p pb
  rw [pulledLoadsS_eight] at harms
  refine ⟨_, hexec pb s, ?registers, hpointer, harms, hbus.log, hbus.draws, ?frame⟩
  case registers =>
    rw [← hloaded]
    exact ⟨State.getReg8_eq_byteOf_stackFrame _ p pb 0 (by decide) rfl,
      State.getReg8_eq_byteOf_stackFrame _ p pb 1 (by decide) rfl,
      State.getReg8_eq_byteOf_stackFrame _ p pb 2 (by decide) rfl,
      State.getReg8_eq_byteOf_stackFrame _ p pb 3 (by decide) rfl,
      State.getReg16_eq_wordOf_stackFrame _ p pb 4 (by decide) rfl,
      State.getReg16_eq_wordOf_stackFrame _ p pb 5 (by decide) rfl,
      State.getReg16_eq_wordOf_stackFrame _ p pb 6 (by decide) rfl,
      State.getReg16_eq_wordOf_stackFrame _ p pb 7 (by decide) rfl⟩
  case frame =>
    have hparts := List.cons_subset_cons p.part (List.cons_subset_cons .devices
      (List.cons_subset_cons .draws (pulledParts_eight_subset pb hother)))
    cases hloads : p.other == .s && pb.getLsbD 6 with
    | false => exact (hframe.of_not_arming (hloads ▸ harms)).mono hparts
    | true =>
      obtain ⟨hs, hsel⟩ := Bool.and_eq_true_iff.1 hloads
      have hnmi := harming (beq_iff_eq.1 hs)
      exact hframe.mono (List.cons_subset.2 ⟨by simp [mem_pick, hsel, hnmi], hparts⟩)

end Sys2Proof.Machine
end

section
/-! SUPPORT. A pull after a push with the same postbyte (41_stack_push_pull.md R142): on a stack in RAM the bytes read are
the bytes stored, so each register gets back what it had. -/

namespace Sys2Proof.Machine

open Claims

theorem State.ramAt_iff {s : State} {a : Word} {n : Nat} :
    s.ramAt a n ↔ ∀ k < n, s.kindAt (a + BitVec.ofNat 16 k) = .ram := by
  induction n generalizing a with
  | zero => exact ⟨fun _ k hk => absurd hk (Nat.not_lt_zero k), fun _ => trivial⟩
  | succ n ih =>
    have haddr (k : Nat) : a + 1#16 + BitVec.ofNat 16 k = a + BitVec.ofNat 16 (k + 1) := by bv_omega
    simp only [State.ramAt, ih, haddr, Nat.forall_lt_succ_left', BitVec.add_zero]

theorem State.holdsBytes_append {s : State} {l1 l2 : List Byte} {a : Word} :
    s.holdsBytes a (l1 ++ l2) ↔ s.holdsBytes a l1 ∧ s.holdsBytes (a + BitVec.ofNat 16 l1.length) l2 := by
  induction l1 generalizing a with
  | nil => simp [State.holdsBytes]
  | cons v vs ih =>
    have haddr : a + 1#16 + BitVec.ofNat 16 vs.length = a + BitVec.ofNat 16 (vs.length + 1) := by bv_omega
    simp only [List.cons_append, State.holdsBytes, ih, List.length_cons, haddr, and_assoc]

/-- Bytes that are where a push puts them lie, from the last one up, in the opposite order. -/
theorem State.holdsBytes_of_pushedBytes {t : State} {sp : Word} {l : List Byte}
    (h : ∀ q ∈ pushedBytes sp l, t.kindAt q.1 = .ram ∧ t.byteAt q.1 = q.2) :
    t.holdsBytes (sp - BitVec.ofNat 16 l.length) l.reverse := by
  induction l generalizing sp with
  | nil => trivial
  | cons v vs ih =>
    obtain ⟨hv, hvs⟩ := List.forall_mem_cons.1 h
    have hrest := ih hvs
    have hlow : sp - 1#16 - BitVec.ofNat 16 vs.length = sp - BitVec.ofNat 16 (vs.length + 1) := by bv_omega
    have htop : sp - BitVec.ofNat 16 (vs.length + 1) + BitVec.ofNat 16 vs.length = sp - 1#16 := by bv_omega
    rw [hlow] at hrest
    rw [List.reverse_cons, List.length_cons, State.holdsBytes_append, List.length_reverse, htop]
    exact ⟨hrest, .inl hv.1, hv.2, trivial⟩

/-- The bytes a push of registers stores on a stack in RAM lie in RAM. -/
theorem State.pushedBytes_ram {s : State} {p : StackPtr} (hram : s.ramAt (s.getSP p - 12#16) 12) {l : List Byte}
    (hlen : l.length ≤ 12) : ∀ q ∈ pushedBytes (s.getSP p) l, s.kindAt q.1 = .ram := by
  intro q hq
  obtain ⟨k, hk, haddr⟩ := address_of_mem_pushedBytes hq
  have hoffset : q.1 = s.getSP p - 12#16 + BitVec.ofNat 16 (11 - k) := by
    rw [haddr]
    bv_omega
  exact hoffset ▸ State.ramAt_iff.1 hram (11 - k) (by omega)

section
variable {s : State} {p : StackPtr} {pb : Byte}

theorem State.stackFrame_reverse_ram (hram : s.ramAt (s.getSP p - 12#16) 12) (pb : Byte) :
    ∀ q ∈ pushedBytes (s.getSP p) (s.stackFrame p pb 8).reverse, s.kindAt q.1 = .ram :=
  State.pushedBytes_ram hram (by rw [List.length_reverse, State.stackFrame_length]; exact pullOffset_eight_le pb)

/-- After a push on a stack in RAM the frame lies at the new stack pointer. -/
theorem State.pushRegisters_holdsBytes (hwf : s.mem.wf = true) (hram : s.ramAt (s.getSP p - 12#16) 12) :
    (s.pushRegisters p pb).holdsBytes ((s.pushRegisters p pb).getSP p) (s.stackFrame p pb 8) := by
  obtain ⟨-, hstored, -⟩ := s.pushRegisters_stores p pb hwf
  have h := State.holdsBytes_of_pushedBytes (t := s.pushRegisters p pb) fun q hq =>
    have hkind := State.stackFrame_reverse_ram hram pb q hq
    ⟨((s.pushRegisters_changes p pb).kindAt q.1).trans hkind, (hstored q hq).trans (if_pos hkind)⟩
  rwa [List.reverse_reverse, List.length_reverse, State.stackFrame_length, ← State.pushRegisters_getSP] at h

/-- No device sees a push on a stack in RAM. -/
theorem State.pushRegisters_deviceLog (hwf : s.mem.wf = true) (hram : s.ramAt (s.getSP p - 12#16) 12) :
    (s.pushRegisters p pb).deviceLog = s.deviceLog := by
  obtain ⟨-, -, hlog⟩ := s.pushRegisters_stores p pb hwf
  rw [hlog, List.filter_eq_nil_iff.2 fun q hq => by simp [State.stackFrame_reverse_ram hram pb q hq]]
  rfl

theorem exists_bit_of_mem_pulledParts {n : Nat} {q : Part} (hq : q ∈ pulledParts p pb n) :
    ∃ i < n, pb.getLsbD i = true ∧ q ∈ (stackReg p i).parts := by
  induction n with
  | zero => exact absurd hq List.not_mem_nil
  | succ n ih =>
    rcases List.mem_append.1 hq with hlow | htop
    · obtain ⟨i, hi, hsel⟩ := ih hlow
      exact ⟨i, by omega, hsel⟩
    · exact ⟨n, by omega, mem_pick.1 htop⟩

/-- What lies at the stack pointer is what a pull of as many bytes puts in the registers, and no device and no free value
is met. -/
theorem State.pullRegisters_of_holdsBytes {frame : List Byte} (hlen : frame.length = pullOffset pb 8)
    (hold : s.holdsBytes (s.getSP p) frame) :
    (s.pullRegisters p pb).stackFrame p pb 8 = frame ∧ SameBus s (s.pullRegisters p pb) := by
  have hpulled := s.pullRegisters_pulled p pb
  have hread := State.readBytes_of_holdsBytes frame hold
  rw [hlen] at hread
  exact ⟨hpulled.loaded.trans (congrArg Prod.fst hread), by simpa only [hread] using hpulled.bus⟩

/-- A pull with the postbyte of the push before it leaves everything but memory as it was, and NMI where S is pulled. -/
theorem State.pull_after_push_changes (hwf : s.mem.wf = true) (hram : s.ramAt (s.getSP p - 12#16) 12) :
    changesOnly [.nmiArmed, .mem] s ((s.pushRegisters p pb).pullRegisters p pb) := by
  have hpush := s.pushRegisters_changes p pb
  have hpulled := (s.pushRegisters p pb).pullRegisters_pulled p pb
  obtain ⟨hframe, hbus⟩ := State.pullRegisters_of_holdsBytes (s.stackFrame_length p pb 8)
    (State.pushRegisters_holdsBytes hwf hram)
  have hpointer : ((s.pushRegisters p pb).pullRegisters p pb).getSP p = s.getSP p := by
    rw [hpulled.pointer, State.pushRegisters_getSP, BitVec.sub_add_cancel]
  obtain ⟨hparams, hrest⟩ := hpush.trans hpulled.frame
  refine ⟨hparams, fun q hq => ?_⟩
  obtain ⟨hnmi, hmem⟩ : q ≠ .nmiArmed ∧ q ≠ .mem := by simpa using hq
  by_cases hstack : q = p.part
  · subst hstack
    cases p <;> exact hpointer
  by_cases hdevices : q = .devices
  · subst hdevices
    exact hbus.log.trans (State.pushRegisters_deviceLog hwf hram)
  by_cases hdraws : q = .draws
  · subst hdraws
    exact hbus.draws.trans (hpush.2 .draws (by cases p <;> simp [StackPtr.part]))
  by_cases hselected : q ∈ pulledParts p pb 8
  · obtain ⟨i, hi, hsel, hpart⟩ := exists_bit_of_mem_pulledParts hselected
    refine Part.same_of_regBytes ?_ hpart
    rw [State.regBytes_eq_of_stackFrame _ p pb hi hsel, hframe, ← State.regBytes_eq_of_stackFrame s p pb hi hsel]
  · exact hrest q (by simp [*])

end

/-- Where the other stack pointer is not S, a pull does not arm NMI. -/
theorem State.pull_after_push_armsIf (s : State) (p : StackPtr) (pb : Byte) :
    armsIf (p.other == .s && pb.getLsbD 6) s ((s.pushRegisters p pb).pullRegisters p pb) := by
  have hpush := s.pushRegisters_changes p pb
  have hkept := hpush.armsIf_false (by cases p <;> simp [StackPtr.part])
  have harms := armsIf.trans hkept ((s.pushRegisters p pb).pullRegisters_pulled p pb).arms hpush.1.2.1
  rwa [Bool.false_or, pulledLoadsS_eight] at harms

end Sys2Proof.Machine
end

section
/-! SUPPORT. The stack instructions (41_stack_push_pull.md): PSHS, PSHU, PULS and PULU. -/

namespace Sys2Proof

open Machine Claims

theorem exec_pshs (pb : Byte) (s : State) : exec (.pshs pb) s = .next (s.pushRegisters .s pb) := rfl

theorem exec_pshu (pb : Byte) (s : State) : exec (.pshu pb) s = .next (s.pushRegisters .u pb) := rfl

theorem exec_puls (pb : Byte) (s : State) : exec (.puls pb) s = .next (s.pullRegisters .s pb) := rfl

theorem exec_pulu (pb : Byte) (s : State) : exec (.pulu pb) s = .next (s.pullRegisters .u pb) := rfl

/-- Settles O28: a push of registers pushes the bytes of the frame, the last one first, each register as it was before. -/
theorem pushesStoreTheSelectedRegisters : Obligations.PushesStoreTheSelectedRegisters :=
  ⟨fun pb => ⟨decodesTo_encode (.pshs pb) rfl, decodesTo_encode (.pshu pb) rfl⟩, pushes_of_exec exec_pshs,
    pushes_of_exec exec_pshu⟩

/-- Settles O29: bit by bit, the registers pulled so far hold the bytes read so far; S is loaded by PULU alone. -/
theorem pullsLoadTheSelectedRegisters : Obligations.PullsLoadTheSelectedRegisters :=
  ⟨fun pb => ⟨decodesTo_encode (.puls pb) rfl, decodesTo_encode (.pulu pb) rfl⟩,
    pulls_of_exec exec_puls (List.Subset.refl _) nofun,
    pulls_of_exec exec_pulu (List.subset_append_left [Part.s] [.nmiArmed]) fun _ => by simp⟩

/-- Settles O30: the frame stored in RAM is the frame read back; PULS loads no S, so NMI stays as it was. -/
theorem pullAfterPushRestores : Obligations.PullAfterPushRestores := by
  refine ⟨fun pb s hwf hram => ⟨_, _, exec_pshs pb s, exec_puls pb _, ?system⟩,
    fun pb s hwf hram => ⟨_, _, exec_pshu pb s, exec_pulu pb _, ?user⟩⟩
  case system =>
    exact (State.pull_after_push_changes (p := .s) hwf hram).of_not_arming (s.pull_after_push_armsIf .s pb)
  case user =>
    exact (State.pull_after_push_changes (p := .u) hwf hram).mono (by simp)

end Sys2Proof
end

section
/-! SUPPORT. The arithmetic of files 42 and 46 as numbers (00_scope.md R13): each computation's result and each flag of
the CC it gives, V as "the signed result does not fit". -/

namespace Sys2Proof.Machine

open Claims

/-! ## Signed overflow -/

/-- Two numbers and a carry, wrapped to 8 bits: operands of one sign and a result of the other is overflow. -/
theorem wrapped_sign_ne_eq_not_fits8 {x y : Int} {c : Nat} (hx : -128 ≤ x ∧ x ≤ 127) (hy : -128 ≤ y ∧ y ≤ 127)
    (hc : c ≤ 1) :
    (decide (x < 0) == decide (y < 0) && (BitVec.ofInt 8 (x + y + c)).msb != decide (x < 0)) = !fits8 (x + y + c) := by
  have hwrapped : (BitVec.ofInt 8 (x + y + c)).msb = decide (128 ≤ (x + y + c) % 256) := by
    rw [BitVec.msb_eq_toInt, BitVec.toInt_ofInt, Int.bmod, decide_eq_decide]
    split <;> omega
  rw [hwrapped, Bool.eq_iff_iff]
  simp only [fits8, Bool.and_eq_true, beq_iff_eq, bne_iff_ne, decide_eq_decide, ne_eq, Bool.not_eq_true',
    decide_eq_false_iff_not]
  omega

theorem byte_toInt_range (v : Byte) : -128 ≤ v.toInt ∧ v.toInt ≤ 127 := by
  have hlow := v.le_toInt
  have hhigh := v.toInt_lt
  omega

/-- Overflow of `Add8` by the signs is the signed three-term sum not fitting (00_scope.md R13). -/
theorem add8_overflow (a b : Byte) (cin : Bool) :
    (a.msb == b.msb && (a + b + BitVec.ofNat 8 cin.toNat).msb != a.msb)
      = !fits8 (a.toInt + b.toInt + (cin.toNat : Int)) := by
  have hwrap : a + b + BitVec.ofNat 8 cin.toNat = BitVec.ofInt 8 (a.toInt + b.toInt + (cin.toNat : Int)) := by
    rw [BitVec.ofInt_add, BitVec.ofInt_add, BitVec.ofInt_toInt, BitVec.ofInt_toInt, BitVec.ofInt_natCast]
  rw [hwrap, BitVec.msb_eq_toInt (x := a), BitVec.msb_eq_toInt (x := b)]
  exact wrapped_sign_ne_eq_not_fits8 (byte_toInt_range a) (byte_toInt_range b) (Bool.toNat_le cin)

/-- The complement as a signed number: `a - b - bin` is `a` plus the complement of `b` plus the complement of `bin`. -/
theorem byte_toInt_not (b : Byte) : (~~~b).toInt = -b.toInt - 1 := by
  have := b.isLt
  rw [BitVec.toInt_eq_toNat_cond, BitVec.toInt_eq_toNat_cond, BitVec.toNat_not]
  split <;> split <;> omega

/-- Overflow of `Sub8` by the signs is the signed three-term difference not fitting (00_scope.md R13): the addition of
the complements. -/
theorem sub8_overflow (a b : Byte) (bin : Bool) :
    (a.msb != b.msb && (a - b - BitVec.ofNat 8 bin.toNat).msb != a.msb)
      = !fits8 (a.toInt - b.toInt - (bin.toNat : Int)) := by
  have hsum : a + ~~~b + BitVec.ofNat 8 (!bin).toNat = a - b - BitVec.ofNat 8 bin.toNat := by
    rw [BitVec.not_eq_neg_add]
    cases bin <;> simp <;> ring
  have hint : a.toInt + (~~~b).toInt + ((!bin).toNat : Int) = a.toInt - b.toInt - (bin.toNat : Int) := by
    rw [byte_toInt_not]
    cases bin <;> simp <;> ring
  have hadd := add8_overflow a (~~~b) (!bin)
  rw [hsum, hint, BitVec.msb_not] at hadd
  rw [← hadd]
  cases a.msb <;> cases b.msb <;> rfl

theorem add16_overflow (a b : Word) :
    (a.msb == b.msb && (a + b).msb != a.msb) = !fits16 (a.toInt + b.toInt) := by
  refine (a.saddOverflow_eq b).symm.trans ?_
  rw [Bool.eq_iff_iff]
  simp only [BitVec.saddOverflow, fits16, Bool.or_eq_true, decide_eq_true_eq, Bool.not_eq_true',
    decide_eq_false_iff_not]
  omega

theorem sub16_overflow (a b : Word) :
    (a.msb != b.msb && (a - b).msb != a.msb) = !fits16 (a.toInt - b.toInt) := by
  have hsigns : (a.msb != b.msb && (a - b).msb != a.msb) = a.ssubOverflow b := by
    rw [BitVec.ssubOverflow_eq]
    cases a.msb <;> cases b.msb <;> simp
  rw [hsigns, Bool.eq_iff_iff]
  simp only [BitVec.ssubOverflow, fits16, Bool.or_eq_true, decide_eq_true_eq, Bool.not_eq_true',
    decide_eq_false_iff_not]
  omega

/-! ## Results -/

theorem ofInt_sub_ofInt {w : Nat} (x y : Int) : BitVec.ofInt w (x - y) = BitVec.ofInt w x - BitVec.ofInt w y := by
  rw [Int.sub_eq_add_neg, BitVec.ofInt_add, BitVec.ofInt_neg, ← BitVec.sub_eq_add_neg]

@[simp] theorem add8_fst (cc a b : Byte) (cin : Bool) : (add8 cc a b cin).1 = a + b + BitVec.ofNat 8 cin.toNat := by
  simp [add8, BitVec.ofNat_add]

@[simp] theorem sub8_fst (cc a b : Byte) (bin h : Bool) :
    (sub8 cc a b bin h).1 = a - b - BitVec.ofNat 8 bin.toNat := by
  simp [sub8, ofInt_sub_ofInt]

@[simp] theorem add16_fst (cc : Byte) (a b : Word) : (add16 cc a b).1 = a + b := by
  simp [add16, BitVec.ofNat_add]

@[simp] theorem sub16_fst (cc : Byte) (a b : Word) : (sub16 cc a b).1 = a - b := by
  simp [sub16, ofInt_sub_ofInt]

theorem mul8_fst_toNat (cc a b : Byte) : (mul8 cc a b).1.toNat = a.toNat * b.toNat := by
  have hlt : a.toNat * b.toNat < 2 ^ 8 * 2 ^ 8 := Nat.mul_lt_mul'' a.isLt b.isLt
  exact Nat.mod_eq_of_lt hlt

theorem sext8_toInt (b : Byte) : (sext8 b).toInt = b.toInt := BitVec.toInt_signExtend_of_le (by decide)

/-- SEX joins B to a byte of its sign: the same signed number on 16 bits (42_arithmetic.md R164). -/
theorem sex8_fst_joinBytes (cc b : Byte) : joinBytes (sex8 cc b).1 b = sext8 b := by
  rw [sext8, BitVec.signExtend_eq_append_of_le (by decide)]
  rfl

/-- The correction of DAA as a number: its two parts share no bit (42_arithmetic.md R157). -/
theorem daaCorrection_toNat (cc a : Byte) :
    (daaCorrection cc a).toNat =
      (if ccGet cc .h = true ∨ a.toNat % 16 > 9 then 6 else 0) +
      (if ccGet cc .c = true ∨ a.toNat / 16 > 9 ∨ (a.toNat / 16 > 8 ∧ a.toNat % 16 > 9) then 96 else 0) := by
  simp only [daaCorrection, Bool.or_eq_true, Bool.and_eq_true, decide_eq_true_eq, or_assoc, gt_iff_lt]
  split <;> split <;> rfl

/-! ## Flags -/

/-- The CC of `Add8`, flag by flag (00_scope.md R13). -/
theorem ccGet_add8 (cc a b : Byte) (cin : Bool) (fl : Flag) :
    ccGet (add8 cc a b cin).2 fl =
      match fl with
      | .h => decide (16 ≤ a.toNat % 16 + b.toNat % 16 + cin.toNat)
      | .n => (add8 cc a b cin).1.msb
      | .z => (add8 cc a b cin).1 == 0#8
      | .v => !fits8 (a.toInt + b.toInt + (cin.toNat : Int))
      | .c => decide (256 ≤ a.toNat + b.toNat + cin.toNat)
      | fl => ccGet cc fl := by
  have hv := add8_overflow a b cin
  rw [← add8_fst cc] at hv
  cases fl
  case v => rw [← hv]; simp [add8, ccGet_setNZ8]
  all_goals simp [add8, ccGet_setNZ8]

/-- The CC of `Sub8`, flag by flag; C is the borrow (00_scope.md R13). -/
theorem ccGet_sub8 (cc a b : Byte) (bin h : Bool) (fl : Flag) :
    ccGet (sub8 cc a b bin h).2 fl =
      match fl with
      | .h => h
      | .n => (sub8 cc a b bin h).1.msb
      | .z => (sub8 cc a b bin h).1 == 0#8
      | .v => !fits8 (a.toInt - b.toInt - (bin.toNat : Int))
      | .c => decide (a.toNat < b.toNat + bin.toNat)
      | fl => ccGet cc fl := by
  have hv := sub8_overflow a b bin
  rw [← sub8_fst cc a b bin h] at hv
  have hborrow : ((a.toNat : Int) - b.toNat - bin.toNat < 0) ↔ a.toNat < b.toNat + bin.toNat := by omega
  cases fl
  case v => rw [← hv]; simp [sub8, ccGet_setNZ8]
  case c => simp only [sub8, ccGet_setNZ8, ccGet_ccPut, hborrow, reduceCtorEq, if_false, if_true]
  all_goals simp [sub8, ccGet_setNZ8]

/-- The CC of `Add16`, flag by flag (00_scope.md R13). -/
theorem ccGet_add16 (cc : Byte) (a b : Word) (fl : Flag) :
    ccGet (add16 cc a b).2 fl =
      match fl with
      | .n => (add16 cc a b).1.msb
      | .z => (add16 cc a b).1 == 0#16
      | .v => !fits16 (a.toInt + b.toInt)
      | .c => decide (65536 ≤ a.toNat + b.toNat)
      | fl => ccGet cc fl := by
  have hv := add16_overflow a b
  rw [← add16_fst cc] at hv
  cases fl
  case v => rw [← hv]; simp [add16, ccGet_setNZ16]
  all_goals simp [add16, ccGet_setNZ16]

/-- The CC of `Sub16`, flag by flag; C is the borrow (00_scope.md R13). -/
theorem ccGet_sub16 (cc : Byte) (a b : Word) (fl : Flag) :
    ccGet (sub16 cc a b).2 fl =
      match fl with
      | .n => (sub16 cc a b).1.msb
      | .z => (sub16 cc a b).1 == 0#16
      | .v => !fits16 (a.toInt - b.toInt)
      | .c => decide (a.toNat < b.toNat)
      | fl => ccGet cc fl := by
  have hv := sub16_overflow a b
  rw [← sub16_fst cc] at hv
  cases fl
  case v => rw [← hv]; simp [sub16, ccGet_setNZ16]
  all_goals simp [sub16, ccGet_setNZ16]

/-- The CC of DAA, flag by flag (42_arithmetic.md R157). -/
theorem ccGet_daa8 (cc a : Byte) (v : Bool) (fl : Flag) :
    ccGet (daa8 cc a v).2 fl =
      match fl with
      | .n => (daa8 cc a v).1.msb
      | .z => (daa8 cc a v).1 == 0#8
      | .v => v
      | .c => ccGet cc .c || decide (256 ≤ a.toNat + (daaCorrection cc a).toNat)
      | fl => ccGet cc fl := by
  cases fl <;> simp [daa8, ccGet_setNZ8]

/-- The CC of MUL, flag by flag (42_arithmetic.md R158). -/
theorem ccGet_mul8 (cc a b : Byte) (fl : Flag) :
    ccGet (mul8 cc a b).2 fl =
      match fl with
      | .z => (mul8 cc a b).1 == 0#16
      | .c => (mul8 cc a b).1.getLsbD 7
      | fl => ccGet cc fl := by
  cases fl <;> simp [mul8]

/-- The CC of SEX, flag by flag (42_arithmetic.md R164). -/
theorem ccGet_sex8 (cc b : Byte) (fl : Flag) :
    ccGet (sex8 cc b).2 fl =
      match fl with
      | .n => (sext8 b).msb
      | .z => sext8 b == 0#16
      | fl => ccGet cc fl := by
  rw [← sex8_fst_joinBytes cc b]
  cases fl <;> simp [sex8, ccGet_setNZ16]

end Sys2Proof.Machine
end

section
/-! SUPPORT. The arithmetic of files 42 and 46 on the state: what an operand leaves of the registers, what each
operation changes, and the claims' shapes `adds8` and `subtracts8` from the equation of one instruction. -/

namespace Sys2Proof.Machine

open Claims

/-! ## What obtaining an operand leaves unchanged -/

/-- All that obtaining some operand can change: a base register, the record of accesses, the count of free values. -/
def operandParts : List Part := [.x, .y, .u, .s, .devices, .draws]

theorem mem_operandParts_of_touched {m : MemOperand} {p : Part} (hp : p ∈ m.touched) : p ∈ operandParts := by
  have hbase (r : IndexReg) : r.part ∈ operandParts := by cases r <;> decide
  have hbus : [.devices, .draws] ⊆ operandParts := by simp [operandParts]
  cases m with
  | dir off | ext addr => exact hbus hp
  | idx ix =>
    rcases List.mem_append.1 hp with hwritten | hread
    · cases ix with
      | inc1 r | inc2 r | dec1 r | dec2 r => exact List.mem_singleton.1 hwritten ▸ hbase r
      | _ => exact absurd hwritten List.not_mem_nil
    · exact hbus hread

theorem State.operand8_changes_operandParts (s : State) (op : Operand8) :
    changesOnly operandParts s (s.operand8 op).2 := by
  refine (s.operand8_changes op).mono fun p hp => ?_
  cases op with
  | imm v => exact absurd hp List.not_mem_nil
  | mem m => exact mem_operandParts_of_touched hp

theorem State.operand16_changes_operandParts (s : State) (op : Operand16) :
    changesOnly operandParts s (s.operand16 op).2 := by
  refine (s.operand16_changes op).mono fun p hp => ?_
  cases op with
  | imm v => exact absurd hp List.not_mem_nil
  | mem m => exact mem_operandParts_of_touched hp

@[simp] theorem State.operand8_flag (s : State) (op : Operand8) (fl : Flag) :
    ccGet (s.operand8 op).2.cc fl = ccGet s.cc fl :=
  (s.operand8_changes_operandParts op).2 (.flag fl) (by simp [operandParts])

@[simp] theorem State.operand8_getAcc (s : State) (op : Operand8) (acc : Acc) :
    (s.operand8 op).2.getAcc acc = s.getAcc acc := by
  have kept (p : Part) (hp : p ∉ operandParts) := (s.operand8_changes_operandParts op).2 p hp
  cases acc with
  | a => exact kept .a (by decide)
  | b => exact kept .b (by decide)

@[simp] theorem State.operand16_d (s : State) (op : Operand16) : (s.operand16 op).2.d = s.d := by
  have kept (p : Part) (hp : p ∉ operandParts) := (s.operand16_changes_operandParts op).2 p hp
  exact congrArg₂ joinBytes (kept .a (by decide)) (kept .b (by decide))

/-! ## Accumulators and D -/

/-- The part that is an accumulator. -/
def Acc.part : Acc → Part
  | .a => .a
  | .b => .b

theorem State.setAcc_changes (s : State) (acc : Acc) (v : Byte) : changesOnly [acc.part] s (s.setAcc acc v) := by
  cases acc with
  | a => exact s.setA_changes v
  | b => exact s.setB_changes v

@[simp] theorem State.setAcc_cc (s : State) (acc : Acc) (v : Byte) : (s.setAcc acc v).cc = s.cc := by
  cases acc <;> rfl

@[simp] theorem State.getAcc_setAcc (s : State) (acc : Acc) (v : Byte) : (s.setAcc acc v).getAcc acc = v := by
  cases acc <;> rfl

@[simp] theorem State.getAcc_setCC (s : State) (acc : Acc) (v : Byte) : (s.setCC v).getAcc acc = s.getAcc acc := by
  cases acc <;> rfl

@[simp] theorem State.setD_d (s : State) (v : Word) : (s.setD v).d = v := joinBytes_highByte_lowByte v

/-! ## Undefined flags -/

/-- The bit given to a flag that is left undefined is the old one under `undefined_flag = unchanged`
(92_eei_decisions.md D12). -/
theorem State.leavesUndefined_of_undefinedBit {s t : State} {fl : Flag}
    (h : ccGet t.cc fl = (s.undefinedBit fl).1) : leavesUndefined fl s t := by
  intro hunchanged
  rw [h, s.undefinedBit_unchanged fl hunchanged]

/-! ## 8-bit addition -/

theorem State.addAcc_getAcc (s : State) (acc : Acc) (m : Byte) (cin : Bool) :
    (s.addAcc acc m cin).getAcc acc = (add8 s.cc (s.getAcc acc) m cin).1 := by
  rw [State.addAcc, State.getAcc_setCC, State.getAcc_setAcc]

theorem State.addAcc_changes (s : State) (acc : Acc) (m : Byte) (cin : Bool) :
    changesOnly (acc.part :: .flag .h :: nzvc) s (s.addAcc acc m cin) := by
  refine (s.setAcc_changes acc _).trans (State.setCC_changes _ _ (.flag .h :: nzvc) fun fl hfl => ?_)
  rw [ccGet_add8, State.setAcc_cc]
  cases fl <;> simp [nzvc] at hfl ⊢

/-- An instruction that obtains an operand and adds it to an accumulator is an 8-bit addition. -/
theorem adds8_of_exec {k : Operand8 → Instr} {carry : State → Bool} (acc : Acc)
    (hexec : ∀ op s, exec (k op) s =
      .next ((s.operand8 op).2.addAcc acc (s.operand8 op).1 (carry (s.operand8 op).2)))
    (hcarry : ∀ op s, carry (s.operand8 op).2 = carry s) :
    adds8 k acc.part (fun s => s.getAcc acc) carry := by
  intro op s
  refine ⟨_, hexec op s, ?_, .of (s.operand8_changes op) (State.addAcc_changes _ _ _ _)⟩
  rw [hcarry]
  simp only [State.addAcc_getAcc, State.operand8_getAcc]
  refine ⟨BitVec.toNat_ofNat _ 8, ?_, ?_, ?_, ?_, ?_⟩ <;> exact (ccGet_add8 _ _ _ _ _).trans (by simp)

/-! ## 8-bit subtraction -/

/-- `Sub8` with its undefined H drawn, as one equation (00_scope.md R13). -/
theorem State.subtract8_eq (s : State) (v m : Byte) (bin : Bool) :
    s.subtract8 v m bin = (v - m - BitVec.ofNat 8 bin.toNat,
      (s.undefinedBit .h).2.setCC (sub8 s.cc v m bin (s.undefinedBit .h).1).2) := by
  simp only [← sub8_fst s.cc v m bin (s.undefinedBit .h).1, ← s.undefinedBit_cc .h]
  rfl

theorem State.subAcc_eq (s : State) (acc : Acc) (m : Byte) (bin : Bool) :
    s.subAcc acc m bin =
      (s.subtract8 (s.getAcc acc) m bin).2.setAcc acc (s.getAcc acc - m - BitVec.ofNat 8 bin.toNat) := by
  simp only [State.subAcc, State.subtract8_eq]

theorem State.subtract8_differenceFlags8 (s : State) (v m : Byte) (bin : Bool) :
    differenceFlags8 s (s.subtract8 v m bin).2 v m bin := by
  have hflag (fl : Flag) := ccGet_sub8 s.cc v m bin (s.undefinedBit .h).1 fl
  simp only [sub8_fst] at hflag
  rw [State.subtract8_eq]
  exact ⟨hflag .c, ⟨hflag .n, hflag .z, hflag .v⟩, State.leavesUndefined_of_undefinedBit (hflag .h)⟩

theorem State.subtract8_changes (s : State) (v m : Byte) (bin : Bool) :
    changesOnly (.flag .h :: .draws :: nzvc) s (s.subtract8 v m bin).2 := by
  rw [State.subtract8_eq]
  refine (s.undefinedBit_changes .h).then (State.setCC_changes _ _ (.flag .h :: nzvc) fun fl hfl => ?_) (by grind)
  rw [State.undefinedBit_cc, ccGet_sub8]
  cases fl <;> simp [nzvc] at hfl ⊢

theorem State.subAcc_changes (s : State) (acc : Acc) (m : Byte) (bin : Bool) :
    changesOnly (acc.part :: .flag .h :: .draws :: nzvc) s (s.subAcc acc m bin) := by
  rw [State.subAcc_eq]
  exact (s.subtract8_changes _ m bin).then (State.setAcc_changes _ acc _) (by grind)

/-- The claim on the flags of a difference reads CC and `undefined_flag` alone. -/
theorem differenceFlags8_congr {s s' t t' : State} {v m : Byte} {borrow : Bool} (h : differenceFlags8 s t v m borrow)
    (hparam : s'.undefinedFlag = s.undefinedFlag) (hs : ccGet s'.cc .h = ccGet s.cc .h) (ht : t'.cc = t.cc) :
    differenceFlags8 s' t' v m borrow := by
  unfold differenceFlags8 nzvAre leavesUndefined at h ⊢
  rwa [hparam, hs, ht]

/-- An instruction that obtains an operand and subtracts it from an accumulator is an 8-bit subtraction. -/
theorem subtracts8_of_exec {k : Operand8 → Instr} {borrow : State → Bool} (acc : Acc)
    (hexec : ∀ op s, exec (k op) s =
      .next ((s.operand8 op).2.subAcc acc (s.operand8 op).1 (borrow (s.operand8 op).2)))
    (hborrow : ∀ op s, borrow (s.operand8 op).2 = borrow s) :
    subtracts8 k acc.part (fun s => s.getAcc acc) borrow := by
  intro op s
  refine ⟨_, hexec op s, ?difference, ?flags, .of (s.operand8_changes op) (State.subAcc_changes _ _ _ _)⟩
  case difference => simp [State.subAcc_eq, hborrow]
  case flags =>
    have hflags := (s.operand8 op).2.subtract8_differenceFlags8 (s.getAcc acc) (s.operand8 op).1 (borrow s)
    refine differenceFlags8_congr hflags (s.operand8_changes op).1.2.2.symm (s.operand8_flag op .h).symm ?_
    simp [State.subAcc_eq, hborrow]

/-! ## 16 bits -/

theorem State.setD_setCC_changes (s : State) (v : Word) (cc : Byte)
    (hcc : ∀ fl, Part.flag fl ∉ nzvc → ccGet cc fl = ccGet s.cc fl) :
    changesOnly (.a :: .b :: nzvc) s ((s.setD v).setCC cc) :=
  (s.setD_changes v).trans (State.setCC_changes _ cc nzvc hcc)

theorem ccGet_add16_of_notMem_nzvc (cc : Byte) (a b : Word) {fl : Flag} (hfl : Part.flag fl ∉ nzvc) :
    ccGet (add16 cc a b).2 fl = ccGet cc fl := by
  rw [ccGet_add16]
  cases fl <;> simp [nzvc] at hfl ⊢

theorem ccGet_sub16_of_notMem_nzvc (cc : Byte) (a b : Word) {fl : Flag} (hfl : Part.flag fl ∉ nzvc) :
    ccGet (sub16 cc a b).2 fl = ccGet cc fl := by
  rw [ccGet_sub16]
  cases fl <;> simp [nzvc] at hfl ⊢

/-- The flags of `Sub16` are those of the difference (00_scope.md R13). -/
theorem differenceFlags16_of_sub16 {t : State} {cc : Byte} {v m : Word} (ht : t.cc = (sub16 cc v m).2) :
    differenceFlags16 t v m := by
  have hflag (fl : Flag) := (congrArg (ccGet · fl) ht).trans (ccGet_sub16 cc v m fl)
  simp only [sub16_fst] at hflag
  exact ⟨hflag .c, hflag .n, hflag .z, hflag .v⟩

/-! ## What the instructions with no operand do, as equations -/

theorem exec_abx (s : State) : exec .abx s = .next (s.setX (s.x + zext8 s.b)) := rfl

theorem exec_nop (s : State) : exec .nop s = .next s := rfl

theorem exec_mul (s : State) : exec .mul s = .next ((s.setD (mul8 s.cc s.a s.b).1).setCC (mul8 s.cc s.a s.b).2) := rfl

theorem exec_sex (s : State) : exec .sex s = .next ((s.setA (sex8 s.cc s.b).1).setCC (sex8 s.cc s.b).2) := rfl

theorem exec_daa (s : State) :
    exec .daa s = .next (((s.undefinedBit .v).2.setA (daa8 s.cc s.a (s.undefinedBit .v).1).1).setCC
      (daa8 s.cc s.a (s.undefinedBit .v).1).2) := by
  rw [← s.undefinedBit_cc .v, ← s.undefinedBit_a .v]
  rfl

theorem State.daa_changes (s : State) (v : Bool) :
    changesOnly (.a :: .draws :: nzvc) s
      (((s.undefinedBit .v).2.setA (daa8 s.cc s.a v).1).setCC (daa8 s.cc s.a v).2) := by
  refine ((s.undefinedBit_changes .v).trans (State.setA_changes _ _)).then
    (State.setCC_changes _ _ nzvc fun fl hfl => ?_) (by grind)
  rw [State.setA_cc, State.undefinedBit_cc, ccGet_daa8]
  cases fl <;> simp [nzvc] at hfl ⊢

/-! ## Packed decimal (42_arithmetic.md R157) -/

/-- A number below 100 in packed decimal: the tens in the high digit, the units in the low one. -/
def packedDecimal (n : Nat) : Byte := BitVec.ofNat 8 (n / 10 * 16 + n % 10)

theorem packedDecimal_toNat {n : Nat} (hn : n < 100) : (packedDecimal n).toNat = n / 10 * 16 + n % 10 := by
  rw [packedDecimal, BitVec.toNat_ofNat]
  omega

/-- Where `a`, the half carry and the carry are those of a binary sum of digits, `tens` the sum of the high ones and
`units` that of the low ones and a carry in, DAA's correction leaves the two decimal digits of the sum and its decimal
carry. -/
theorem decimal_adjust {tens units unitsCarry unit tensCarry ten a low high : Nat} {half carry : Bool}
    (hunits : units = 10 * unitsCarry + unit) (hunit : unit < 10) (hunitsCarry : unitsCarry ≤ 1)
    (htens : tens + unitsCarry = 10 * tensCarry + ten) (hten : ten < 10) (htensCarry : tensCarry ≤ 1)
    (ha : a = (tens * 16 + units) % 256) (hhalf : half = decide (16 ≤ units))
    (hcarry : carry = decide (256 ≤ tens * 16 + units))
    (hlow : low = if half = true ∨ a % 16 > 9 then 6 else 0)
    (hhigh : high = if carry = true ∨ a / 16 > 9 ∨ (a / 16 > 8 ∧ a % 16 > 9) then 96 else 0) :
    (a + (low + high)) % 256 = ten * 16 + unit ∧ ((carry = true ∨ 256 ≤ a + (low + high)) ↔ tensCarry = 1) := by
  simp only [hhalf, hcarry, decide_eq_true_eq] at hlow hhigh ⊢
  have hlowDigit : low = 6 * unitsCarry := by
    rw [hlow]
    split <;> omega
  have hwrap : a = tens * 16 + units ∨ (256 ≤ tens * 16 + units ∧ a + 256 = tens * 16 + units) := by omega
  have hhighDigit : high = 96 * tensCarry := by
    rw [hhigh]
    obtain hsum | ⟨hout, hsum⟩ := hwrap <;> split <;> omega
  clear hlow hhigh
  obtain hsum | ⟨hout, hsum⟩ := hwrap <;> omega

end Sys2Proof.Machine
end

section
/-! SUPPORT. Arithmetic (42_arithmetic.md): additions, subtractions, ABX, DAA, MUL, SEX, and NOP. -/

namespace Sys2Proof

open Machine Claims

/-- Settles O31: the accumulator and the carry are still those from before the operand; V of the signs is that of the
signed three-term sum. -/
theorem eightBitAdditions : Obligations.EightBitAdditions :=
  ⟨⟨operandForms8_of_encode (fun _ => rfl) fun _ => rfl,
      adds8_of_exec .a (fun op s => exec_adda s op) fun _ _ => rfl⟩,
    ⟨operandForms8_of_encode (fun _ => rfl) fun _ => rfl,
      adds8_of_exec .b (fun op s => exec_addb s op) fun _ _ => rfl⟩,
    ⟨operandForms8_of_encode (fun _ => rfl) fun _ => rfl,
      adds8_of_exec .a (fun op s => exec_adca s op) fun op s => s.operand8_flag op .c⟩,
    ⟨operandForms8_of_encode (fun _ => rfl) fun _ => rfl,
      adds8_of_exec .b (fun op s => exec_adcb s op) fun op s => s.operand8_flag op .c⟩⟩

/-- Settles O32: as the additions, with the complements added; H is the undefined bit. -/
theorem eightBitSubtractions : Obligations.EightBitSubtractions :=
  ⟨⟨operandForms8_of_encode (fun _ => rfl) fun _ => rfl,
      subtracts8_of_exec .a (fun op s => exec_suba s op) fun _ _ => rfl⟩,
    ⟨operandForms8_of_encode (fun _ => rfl) fun _ => rfl,
      subtracts8_of_exec .b (fun op s => exec_subb s op) fun _ _ => rfl⟩,
    ⟨operandForms8_of_encode (fun _ => rfl) fun _ => rfl,
      subtracts8_of_exec .a (fun op s => exec_sbca s op) fun op s => s.operand8_flag op .c⟩,
    ⟨operandForms8_of_encode (fun _ => rfl) fun _ => rfl,
      subtracts8_of_exec .b (fun op s => exec_sbcb s op) fun op s => s.operand8_flag op .c⟩⟩

/-- Settles O33: no operand touches A or B, so D is the one from before it. -/
theorem sixteenBitSumAndDifference : Obligations.SixteenBitSumAndDifference := by
  refine ⟨operandForms16_of_encode (fun _ => rfl) fun _ => rfl, operandForms16_of_encode (fun _ => rfl) fun _ => rfl,
    fun op s => ⟨_, exec_addd s op, ?sum, .of (s.operand16_changes op) (State.setD_setCC_changes _ _ _ fun _ hfl =>
      ccGet_add16_of_notMem_nzvc _ _ _ hfl)⟩,
    fun op s => ⟨_, exec_subd s op, ?difference, ?flags, .of (s.operand16_changes op)
      (State.setD_setCC_changes _ _ _ fun _ hfl => ccGet_sub16_of_notMem_nzvc _ _ _ hfl)⟩⟩
  case sum =>
    simp only [State.operand16_d, State.setCC_d, State.setD_d, State.setCC_cc]
    exact ⟨by simp, ccGet_add16 _ _ _ .c, ccGet_add16 _ _ _ .n, ccGet_add16 _ _ _ .z, ccGet_add16 _ _ _ .v⟩
  case difference => simp
  case flags => exact differenceFlags16_of_sub16 (by rw [State.setCC_cc, State.operand16_d])

/-- Settles O37: the two parts of the correction share no bit, so joining them adds them. -/
theorem daaAddsItsCorrection : Obligations.DaaAddsItsCorrection := by
  refine ⟨decodesTo_encode .daa rfl, fun s => ⟨_, exec_daa s, ?_, ?n, ?z, ?v, s.daa_changes _⟩⟩
  · simp only [← daaCorrection_toNat, State.setCC_a, State.setA_a, State.setCC_cc]
    exact ⟨BitVec.toNat_ofNat _ 8, ccGet_daa8 _ _ _ .c⟩
  case n => exact ccGet_daa8 _ _ _ .n
  case z => exact ccGet_daa8 _ _ _ .z
  case v => exact State.leavesUndefined_of_undefinedBit (ccGet_daa8 _ _ _ .v)

/-- An addition to A of two packed decimal bytes, then DAA (42_arithmetic.md R157). -/
theorem exec_daa_after_adds8 {k : Operand8 → Instr} {carry : State → Bool} (hadds : adds8 k .a State.a carry)
    (s : State) (op : Operand8) {p q : Nat} (hp : p < 100) (hq : q < 100) (ha : s.a = packedDecimal p)
    (hop : (s.operand8 op).1 = packedDecimal q) :
    ∃ t u, exec (k op) s = .next t ∧ exec .daa t = .next u ∧
      u.a = packedDecimal ((p + q + (carry s).toNat) % 100) ∧
      ccGet u.cc .c = decide (100 ≤ p + q + (carry s).toNat) := by
  obtain ⟨t, hadd, ⟨hsum, hhalf, hcarry, -⟩, -⟩ := hadds op s
  obtain ⟨-, hdaa⟩ := daaAddsItsCorrection
  obtain ⟨u, hadjust, ⟨hdec, hout⟩, -⟩ := hdaa t
  have hcarryIn := (carry s).toNat_le
  have hdigits (n : Nat) : (n / 10 * 16 + n % 10) % 16 = n % 10 := by omega
  have hbinary : p / 10 * 16 + p % 10 + (q / 10 * 16 + q % 10) + (carry s).toNat
      = (p / 10 + q / 10) * 16 + (p % 10 + q % 10 + (carry s).toNat) := by ring
  simp only [ha, hop, packedDecimal_toNat hp, packedDecimal_toNat hq, hdigits, hbinary] at hsum hhalf hcarry
  obtain ⟨hdecimal, hcarries⟩ := decimal_adjust (Nat.div_add_mod _ 10).symm (by omega) (by omega)
    (Nat.div_add_mod _ 10).symm (by omega) (by omega) hsum hhalf hcarry rfl rfl
  refine ⟨t, u, hadd, hadjust, BitVec.eq_of_toNat_eq ?_, ?_⟩
  · rw [hdec, hdecimal, packedDecimal_toNat (Nat.mod_lt _ (by decide))]
    omega
  · rw [hout, Bool.eq_iff_iff, Bool.or_eq_true, decide_eq_true_eq, decide_eq_true_eq, hcarries]
    omega

/-- Settles O38: the sum is the one of O31, the correction the one of O37. -/
theorem daaGivesTheDecimalSum : Obligations.DaaGivesTheDecimalSum := by
  obtain ⟨⟨-, hadda⟩, -, ⟨-, hadca⟩, -⟩ := eightBitAdditions
  intro s op p q hp hq ha hop
  exact ⟨exec_daa_after_adds8 hadda s op hp hq ha hop, exec_daa_after_adds8 hadca s op hp hq ha hop⟩

/-- Settles O34: B is extended with zeros; NOP's meaning is the state itself. -/
theorem abxAddsUnsignedAndNopDoesNothing : Obligations.AbxAddsUnsignedAndNopDoesNothing := by
  refine ⟨decodesTo_encode .abx rfl, fun s => ⟨_, exec_abx s, ?sum, s.setX_changes _⟩, decodesTo_encode .nop rfl,
    exec_nop⟩
  case sum => simp [zext8]

/-- Settles O35: the product of two bytes fits in D. -/
theorem mulIsTheUnsignedProduct : Obligations.MulIsTheUnsignedProduct := by
  refine ⟨decodesTo_encode .mul rfl, fun s => ⟨_, exec_mul s, ?product, ?z, ?c, ?frame⟩⟩
  case product => simp [mul8_fst_toNat]
  case z =>
    rw [State.setCC_cc, ccGet_mul8, Bool.eq_iff_iff, beq_iff_eq, ← BitVec.toNat_inj, mul8_fst_toNat]
    simp
  case c =>
    rw [State.setCC_cc, ccGet_mul8]
    simp [lowByte]
  case frame =>
    refine (s.setD_changes _).trans (State.setCC_changes _ _ [.flag .z, .flag .c] fun fl hfl => ?_)
    rw [ccGet_mul8, State.setD_cc]
    cases fl <;> simp at hfl ⊢

/-- Settles O36: D is B extended by its sign. -/
theorem sexExtendsTheSignOfB : Obligations.SexExtendsTheSignOfB := by
  refine ⟨decodesTo_encode .sex rfl, fun s => ⟨_, exec_sex s, ?value, rfl, ?n, ?z, ?frame⟩⟩
  case value =>
    have hd : ((s.setA (sex8 s.cc s.b).1).setCC (sex8 s.cc s.b).2).d = sext8 s.b := sex8_fst_joinBytes s.cc s.b
    rw [hd, sext8_toInt]
  case n =>
    simp only [State.setCC_cc, ccGet_sex8]
    rw [BitVec.msb_eq_toInt, sext8_toInt, ← BitVec.msb_eq_toInt, BitVec.msb_eq_getLsbD_last]
  case z =>
    rw [State.setCC_cc, ccGet_sex8, Bool.eq_iff_iff, beq_iff_eq, beq_iff_eq, ← BitVec.toInt_inj, ← BitVec.toInt_inj,
      sext8_toInt]
    rfl
  case frame =>
    refine (s.setA_changes _).trans (State.setCC_changes _ _ [.flag .n, .flag .z] fun fl hfl => ?_)
    rw [ccGet_sex8, State.setA_cc]
    cases fl <;> simp at hfl ⊢

end Sys2Proof
end

section
/-! SUPPORT. The logic of file 43 on the state: a bitwise result into an accumulator with its flags, the claims' shape
`combines8` from the equation of one instruction, and the masks of ANDCC and ORCC. -/

namespace Sys2Proof.Machine

open Claims

/-! ## An accumulator and its operand (43_logic.md R170) -/

@[simp] theorem State.logicAcc_getAcc (s : State) (acc : Acc) (r : Byte) : (s.logicAcc acc r).getAcc acc = r := by
  rw [State.logicAcc, State.setLogicFlags8, State.getAcc_setCC, State.getAcc_setAcc]

theorem State.logicAcc_nzv (s : State) (acc : Acc) (r : Byte) : nzvAre (s.logicAcc acc r) r.msb (r == 0#8) false :=
  State.setLogicFlags8_nzv _ r

theorem State.logicAcc_changes (s : State) (acc : Acc) (r : Byte) : changesOnly (acc.part :: nzv) s (s.logicAcc acc r) :=
  (s.setAcc_changes acc r).trans (State.setLogicFlags8_changes _ r)

/-- An instruction that obtains an operand and combines it with an accumulator is a logic instruction; the accumulator it
reads is the one from before the operand. -/
theorem combines8_of_exec {k : Operand8 → Instr} {f : Byte → Byte → Byte} (acc : Acc)
    (hexec : ∀ op s, exec (k op) s =
      .next ((s.operand8 op).2.logicAcc acc (f ((s.operand8 op).2.getAcc acc) (s.operand8 op).1))) :
    combines8 k acc.part (fun s => s.getAcc acc) f := by
  intro op s
  refine ⟨_, hexec op s, ?result, ?flags, .of (s.operand8_changes op) (State.logicAcc_changes _ _ _)⟩
  case result => simp only [State.logicAcc_getAcc, State.operand8_getAcc]
  case flags =>
    simp only [State.logicAcc_getAcc]
    exact State.logicAcc_nzv _ _ _

/-! ## The masks of CC (43_logic.md R177, R178) -/

theorem ccGet_and (cc m : Byte) (fl : Flag) : ccGet (cc &&& m) fl = (ccGet cc fl && m.getLsbD fl.bit) :=
  BitVec.getLsbD_and

theorem ccGet_or (cc m : Byte) (fl : Flag) : ccGet (cc ||| m) fl = (ccGet cc fl || m.getLsbD fl.bit) :=
  BitVec.getLsbD_or

theorem exec_andcc (m : Byte) (s : State) : exec (.andcc m) s = .next (s.setCC (s.cc &&& m)) := rfl

theorem exec_orcc (m : Byte) (s : State) : exec (.orcc m) s = .next (s.setCC (s.cc ||| m)) := rfl

end Sys2Proof.Machine
end

section
/-! SUPPORT. Logic (43_logic.md): AND, EOR and OR of an accumulator, ANDCC and ORCC. -/

namespace Sys2Proof

open Machine Claims

/-- Settles O39: no operand touches an accumulator, so each combines the one from before it. -/
theorem logicOnAccumulators : Obligations.LogicOnAccumulators :=
  ⟨⟨operandForms8_of_encode (fun _ => rfl) fun _ => rfl, combines8_of_exec .a fun op s => exec_anda s op⟩,
    ⟨operandForms8_of_encode (fun _ => rfl) fun _ => rfl, combines8_of_exec .b fun op s => exec_andb s op⟩,
    ⟨operandForms8_of_encode (fun _ => rfl) fun _ => rfl, combines8_of_exec .a fun op s => exec_eora s op⟩,
    ⟨operandForms8_of_encode (fun _ => rfl) fun _ => rfl, combines8_of_exec .b fun op s => exec_eorb s op⟩,
    ⟨operandForms8_of_encode (fun _ => rfl) fun _ => rfl, combines8_of_exec .a fun op s => exec_ora s op⟩,
    ⟨operandForms8_of_encode (fun _ => rfl) fun _ => rfl, combines8_of_exec .b fun op s => exec_orb s op⟩⟩

/-- Settles O40: a bitwise AND or OR of CC with the mask acts on each flag by the mask's bit in its place. -/
theorem andccClearsAndOrccSets : Obligations.AndccClearsAndOrccSets :=
  ⟨fun m => ⟨decodesTo_encode (.andcc m) rfl, decodesTo_encode (.orcc m) rfl⟩,
    fun m s => ⟨_, exec_andcc m s, ccGet_and s.cc m, s.setCC_changes_flags _⟩,
    fun m s => ⟨_, exec_orcc m s, ccGet_or s.cc m, s.setCC_changes_flags _⟩⟩

end Sys2Proof
end

section
/-! SUPPORT. The shifts and rotates of file 44 as numbers (44_shift_rotate.md R181, R182): a byte moved by one place with
a bit entering at the free end, each operation's result, and each flag of the CC it gives. -/

namespace Sys2Proof.Machine

open Claims

/-! ## A bit entering at either end (44_shift_rotate.md R181) -/

theorem toNat_enterAtTop (c : Bool) (m : Byte) :
    (BitVec.ofBool c ++ m.extractLsb' 1 7).toNat = m.toNat / 2 + 128 * c.toNat := by
  have hlow : (m.extractLsb' 1 7).toNat = m.toNat / 2 := by
    rw [BitVec.extractLsb'_toNat, Nat.shiftRight_eq_div_pow]
    omega
  rw [BitVec.toNat_append, ← Nat.shiftLeft_add_eq_or_of_lt (BitVec.isLt _), hlow, BitVec.toNat_ofBool, Nat.shiftLeft_eq]
  omega

theorem toNat_enterAtBottom (m : Byte) (c : Bool) :
    (m.extractLsb' 0 7 ++ BitVec.ofBool c).toNat = (2 * m.toNat + c.toNat) % 256 := by
  have hhigh : (m.extractLsb' 0 7).toNat = m.toNat % 128 := BitVec.extractLsb'_toNat 0 7 m
  have hc := c.toNat_le
  rw [BitVec.toNat_append, ← Nat.shiftLeft_add_eq_or_of_lt (BitVec.isLt _), hhigh, BitVec.toNat_ofBool, Nat.shiftLeft_eq]
  omega

theorem msb_enterAtTop (c : Bool) (m : Byte) : (BitVec.ofBool c ++ m.extractLsb' 1 7).msb = c := by
  rw [BitVec.msb_append, if_neg Nat.one_ne_zero]
  exact BitVec.msb_ofBool c

theorem msb_enterAtBottom (m : Byte) (c : Bool) : (m.extractLsb' 0 7 ++ BitVec.ofBool c).msb = m.getLsbD 6 := by
  rw [BitVec.msb_append, if_neg (by decide), BitVec.msb_eq_getLsbD_last, BitVec.getLsbD_extractLsb']
  rfl

/-! ## Results -/

/-- The sign kept at the top is the signed half rounded down (44_shift_rotate.md R183). -/
theorem asr8_fst (cc m : Byte) (h : Bool) : (asr8 cc m h).1 = BitVec.ofInt 8 (m.toInt / 2) := by
  have hsign : m.toInt = (m.toNat : Int) - 256 * ((m.getLsbD 7).toNat : Int) := by
    rw [BitVec.toInt_eq_msb_cond, BitVec.msb_eq_getLsbD_last]
    cases m.getLsbD 7 <;> simp
  have hlt := m.isLt
  have hbit := (m.getLsbD 7).toNat_le
  apply BitVec.eq_of_toNat_eq
  rw [BitVec.toNat_ofInt, hsign]
  refine (toNat_enterAtTop (m.getLsbD 7) m).trans ?_
  omega

theorem lsr8_fst (cc m : Byte) : (lsr8 cc m).1 = BitVec.ofNat 8 (m.toNat / 2) := by
  have hlt := m.isLt
  apply BitVec.eq_of_toNat_eq
  rw [BitVec.toNat_ofNat]
  refine (toNat_enterAtTop false m).trans ?_
  rw [Bool.toNat_false]
  omega

theorem ror8_fst (cc m : Byte) : (ror8 cc m).1 = BitVec.ofNat 8 (m.toNat / 2 + 128 * (ccGet cc .c).toNat) := by
  have hlt := m.isLt
  have hbit := (ccGet cc .c).toNat_le
  apply BitVec.eq_of_toNat_eq
  rw [BitVec.toNat_ofNat]
  refine (toNat_enterAtTop (ccGet cc .c) m).trans ?_
  omega

theorem asl8_fst (cc m : Byte) (h : Bool) : (asl8 cc m h).1 = BitVec.ofNat 8 (2 * m.toNat) :=
  BitVec.eq_of_toNat_eq (toNat_enterAtBottom m false)

theorem rol8_fst (cc m : Byte) : (rol8 cc m).1 = BitVec.ofNat 8 (2 * m.toNat + (ccGet cc .c).toNat) :=
  BitVec.eq_of_toNat_eq (toNat_enterAtBottom m (ccGet cc .c))

/-! ## Flags -/

/-- The CC of ASR, flag by flag (44_shift_rotate.md R182). -/
theorem ccGet_asr8 (cc m : Byte) (h : Bool) (fl : Flag) :
    ccGet (asr8 cc m h).2 fl =
      match fl with
      | .h => h
      | .n => m.getLsbD 7
      | .z => (asr8 cc m h).1 == 0#8
      | .c => m.getLsbD 0
      | fl => ccGet cc fl := by
  cases fl <;> simp [asr8, ccGet_setNZ8, msb_enterAtTop]

/-- The CC of LSR, flag by flag (44_shift_rotate.md R182). -/
theorem ccGet_lsr8 (cc m : Byte) (fl : Flag) :
    ccGet (lsr8 cc m).2 fl =
      match fl with
      | .n => false
      | .z => (lsr8 cc m).1 == 0#8
      | .c => m.getLsbD 0
      | fl => ccGet cc fl := by
  cases fl <;> simp [lsr8]

/-- The CC of ROR, flag by flag; N is the old C (44_shift_rotate.md R182). -/
theorem ccGet_ror8 (cc m : Byte) (fl : Flag) :
    ccGet (ror8 cc m).2 fl =
      match fl with
      | .n => ccGet cc .c
      | .z => (ror8 cc m).1 == 0#8
      | .c => m.getLsbD 0
      | fl => ccGet cc fl := by
  cases fl <;> simp [ror8, ccGet_setNZ8, msb_enterAtTop]

/-- The CC of ASL, flag by flag (44_shift_rotate.md R182). -/
theorem ccGet_asl8 (cc m : Byte) (h : Bool) (fl : Flag) :
    ccGet (asl8 cc m h).2 fl =
      match fl with
      | .h => h
      | .n => m.getLsbD 6
      | .z => (asl8 cc m h).1 == 0#8
      | .v => m.getLsbD 7 ^^ m.getLsbD 6
      | .c => m.getLsbD 7
      | fl => ccGet cc fl := by
  have hn : (m.extractLsb' 0 7 ++ 0#1).msb = m.getLsbD 6 := msb_enterAtBottom m false
  cases fl <;> simp [asl8, ccGet_setNZ8, hn]

/-- The CC of ROL, flag by flag (44_shift_rotate.md R182). -/
theorem ccGet_rol8 (cc m : Byte) (fl : Flag) :
    ccGet (rol8 cc m).2 fl =
      match fl with
      | .n => m.getLsbD 6
      | .z => (rol8 cc m).1 == 0#8
      | .v => m.getLsbD 7 ^^ m.getLsbD 6
      | .c => m.getLsbD 7
      | fl => ccGet cc fl := by
  cases fl <;> simp [rol8, ccGet_setNZ8, msb_enterAtBottom]

end Sys2Proof.Machine
end

section
/-! SUPPORT. The operations on one byte, in an accumulator or in memory (20_memory.md R61): when a function of the state
and the byte does what a `ByteOp` says, and the claims' shapes `onAcc` and `onMemory` from the equation of one
instruction. -/

namespace Sys2Proof.Machine

/-- Obtaining an operand keeps every flag, so CC. -/
@[simp] theorem State.operand8_cc (s : State) (op : Operand8) : (s.operand8 op).2.cc = s.cc :=
  byte_eq_of_flags _ _ (s.operand8_flag op)

end Sys2Proof.Machine

namespace Sys2Proof.Claims

open Machine

/-! ## Doing what the operation says -/

/-- The function of the state and the byte does the operation: its result, its flags, and no other change. The claim on
the flags reads CC and `undefined_flag` alone, so it is asked for every two states that agree with those of the operation
on them: obtaining an address comes before the one, the write of the result after the other. -/
structure ByteOp.DoneBy (o : ByteOp) (f : State → Byte → Byte × State) : Prop where
  result : ∀ s m, (f s m).1 = o.result m (ccGet s.cc .c)
  flags : ∀ s m s' t, s'.cc = s.cc → s'.undefinedFlag = s.undefinedFlag → t.cc = (f s m).2.cc → o.flags m s' t
  frame : ∀ s m, changesOnly o.writes s (f s m).2
  mem : ∀ s m, (f s m).2.mem = s.mem
  deviceLog : ∀ s m, (f s m).2.deviceLog = s.deviceLog

/-- A function of CC and the byte that leaves no flag undefined. -/
theorem ByteOp.doneBy_withFlags {o : ByteOp} {g : Byte → Byte → Byte × Byte}
    (hresult : ∀ cc m, (g cc m).1 = o.result m (ccGet cc .c))
    (hflags : ∀ s t m, t.cc = (g s.cc m).2 → o.flags m s t)
    (hkept : ∀ cc m fl, Part.flag fl ∉ o.writes → ccGet (g cc m).2 fl = ccGet cc fl) :
    o.DoneBy (fun s m => s.withFlags g m) where
  result s m := hresult s.cc m
  flags _ m s' t hs _ ht := hflags s' t m (hs ▸ ht)
  frame s m := s.setCC_changes _ o.writes (hkept s.cc m)
  mem _ _ := rfl
  deviceLog _ _ := rfl

/-- A function of CC, the byte, and the free value of an undefined H (93_implementation_defined.md U2). -/
theorem ByteOp.doneBy_undefinedH {o : ByteOp} {g : Byte → Byte → Bool → Byte × Byte}
    (hresult : ∀ cc m h, (g cc m h).1 = o.result m (ccGet cc .c))
    (hflags : ∀ s t m h, t.cc = (g s.cc m h).2 → (s.undefinedFlag = .unchanged → h = ccGet s.cc .h) → o.flags m s t)
    (hkept : ∀ cc m h fl, Part.flag fl ∉ o.writes → ccGet (g cc m h).2 fl = ccGet cc fl)
    (hdraws : Part.draws ∈ o.writes) :
    o.DoneBy (fun s m => (s.undefinedBit .h).2.withFlags (fun cc v => g cc v (s.undefinedBit .h).1) m) where
  result s m := by
    rw [State.withFlags, hresult, State.undefinedBit_cc]
  flags s m s' t hs hparam ht := by
    refine hflags s' t m (s.undefinedBit .h).1 (by rw [ht, hs, State.withFlags, State.setCC_cc, State.undefinedBit_cc]) ?_
    rw [hparam, hs]
    exact fun hunchanged => congrArg Prod.fst (s.undefinedBit_unchanged .h hunchanged)
  frame s m := by
    refine (s.undefinedBit_changes .h).then (State.setCC_changes _ _ o.writes (hkept _ m _)) fun p hp => ?_
    rcases List.mem_append.1 hp with hdrawn | hwritten
    · exact List.mem_singleton.1 hdrawn ▸ hdraws
    · exact hwritten
  mem s _ := s.undefinedBit_mem .h
  deviceLog s _ := s.undefinedBit_deviceLog .h

/-! ## On an accumulator, on memory -/

theorem ByteOp.DoneBy.onAcc {o : ByteOp} {f : State → Byte → Byte × State} {i : Instr} (hdone : o.DoneBy f) (acc : Acc)
    (hexec : ∀ s, exec i s = .next (s.modifyAcc acc f)) : o.onAcc i acc.part (fun s => s.getAcc acc) := by
  intro s
  refine ⟨_, hexec s, ?result, hdone.flags s _ s _ rfl rfl (State.setAcc_cc _ _ _), ?frame⟩
  case result => exact (State.getAcc_setAcc _ _ _).trans (hdone.result s _)
  case frame => exact (hdone.frame s _).then (State.setAcc_changes _ acc _) (by grind)

theorem ByteOp.DoneBy.writeByte_stores {o : ByteOp} {f : State → Byte → Byte × State} (hdone : o.DoneBy f) (s : State)
    (ea : Word) (m : Byte) (hwf : s.mem.wf = true) :
    storesBytes s ((f s m).2.writeByte ea (f s m).1) [(ea, o.result m (ccGet s.cc .c))] := by
  rw [← hdone.result]
  exact ((f s m).2.writeByte_stores ea _ (hdone.mem s m ▸ hwf)).congr
    ⟨(hdone.mem s m).symm, (hdone.frame s m).1.1.symm, (hdone.deviceLog s m).symm⟩ ⟨rfl, rfl⟩

theorem ByteOp.DoneBy.writeByte_changes {o : ByteOp} {f : State → Byte → Byte × State} (hdone : o.DoneBy f) (s : State)
    (ea : Word) (m : Byte) :
    changesOnly (.mem :: .devices :: o.writes) s ((f s m).2.writeByte ea (f s m).1) :=
  (hdone.frame s m).then ((f s m).2.writeByte_changes ea _) (by grind)

/-- The one read, at the address obtained, is the operand of the memory form (20_memory.md R61). -/
theorem ByteOp.DoneBy.onMemory {o : ByteOp} {f : State → Byte → Byte × State} {k : MemOperand → Instr}
    (hdone : o.DoneBy f) (hexec : ∀ m s, exec (k m) s = .next (s.modifyMemory m f)) : o.onMemory k := by
  intro m s hwf
  have hmem := s.operand8_mem (.mem m)
  have htouched := s.operand8_changes (.mem m)
  have hcc := s.operand8_cc (.mem m)
  have hstored := hdone.writeByte_stores (s.operand8 (.mem m)).2 (s.resolveEA m).1 (found m s) (hmem ▸ hwf)
  rw [hcc] at hstored
  exact ⟨_, hexec m s, ⟨hstored, hstored.keepsOutside hmem, .of htouched (hdone.writeByte_changes _ _ _)⟩,
    hdone.flags _ _ s _ hcc.symm htouched.1.2.2.symm (State.writeByte_cc _ _ _)⟩

end Sys2Proof.Claims
end

section
/-! SUPPORT. The shifts and rotates (44_shift_rotate.md): ASR, LSR, ROR, ASL and ROL do what their operations say, on A, B
and memory. -/

namespace Sys2Proof

open Machine Claims

/-! ## The five operations (44_shift_rotate.md R182) -/

theorem asrOp_doneBy : asrOp.DoneBy State.asrValue := by
  refine ByteOp.doneBy_undefinedH asr8_fst (fun s t m h ht hfree => ?flags) (fun cc m h fl hfl => ?kept) (by decide)
  case flags =>
    have hflag (fl : Flag) := ccGet_asr8 s.cc m h fl
    rw [asr8_fst, ← ht] at hflag
    exact ⟨hflag .c, hflag .n, hflag .z, fun hunchanged => (hflag .h).trans (hfree hunchanged)⟩
  case kept =>
    rw [ccGet_asr8]
    cases fl <;> simp [asrOp] at hfl ⊢

theorem lsrOp_doneBy : lsrOp.DoneBy State.lsrValue := by
  refine ByteOp.doneBy_withFlags lsr8_fst (fun s t m ht => ?flags) (fun cc m fl hfl => ?kept)
  case flags =>
    have hflag (fl : Flag) := ccGet_lsr8 s.cc m fl
    rw [lsr8_fst, ← ht] at hflag
    exact ⟨hflag .c, hflag .n, hflag .z⟩
  case kept =>
    rw [ccGet_lsr8]
    cases fl <;> simp [lsrOp] at hfl ⊢

theorem rorOp_doneBy : rorOp.DoneBy State.rorValue := by
  refine ByteOp.doneBy_withFlags ror8_fst (fun s t m ht => ?flags) (fun cc m fl hfl => ?kept)
  case flags =>
    have hflag (fl : Flag) := ccGet_ror8 s.cc m fl
    rw [ror8_fst, ← ht] at hflag
    exact ⟨hflag .c, hflag .n, hflag .z⟩
  case kept =>
    rw [ccGet_ror8]
    cases fl <;> simp [rorOp] at hfl ⊢

theorem aslOp_doneBy : aslOp.DoneBy State.aslValue := by
  refine ByteOp.doneBy_undefinedH asl8_fst (fun s t m h ht hfree => ?flags) (fun cc m h fl hfl => ?kept) (by decide)
  case flags =>
    have hflag (fl : Flag) := ccGet_asl8 s.cc m h fl
    rw [asl8_fst, ← ht] at hflag
    exact ⟨hflag .c, ⟨hflag .n, hflag .z, hflag .v⟩, fun hunchanged => (hflag .h).trans (hfree hunchanged)⟩
  case kept =>
    rw [ccGet_asl8]
    cases fl <;> simp [aslOp, nzvc] at hfl ⊢

theorem rolOp_doneBy : rolOp.DoneBy State.rolValue := by
  refine ByteOp.doneBy_withFlags rol8_fst (fun s t m ht => ?flags) (fun cc m fl hfl => ?kept)
  case flags =>
    have hflag (fl : Flag) := ccGet_rol8 s.cc m fl
    rw [rol8_fst, ← ht] at hflag
    exact ⟨hflag .c, hflag .n, hflag .z, hflag .v⟩
  case kept =>
    rw [ccGet_rol8]
    cases fl <;> simp [rolOp, nzvc] at hfl ⊢

/-! ## The instructions -/

/-- Settles O41: each instruction is its operation on A, on B or on the byte at the address. -/
theorem rightShiftsAndRotates : Obligations.RightShiftsAndRotates :=
  ⟨⟨decodesTo_encode .asra rfl, asrOp_doneBy.onAcc .a fun _ => rfl⟩,
    ⟨decodesTo_encode .asrb rfl, asrOp_doneBy.onAcc .b fun _ => rfl⟩,
    ⟨memoryForms_of_encode (fun _ => rfl) fun _ => rfl, asrOp_doneBy.onMemory fun _ _ => rfl⟩,
    ⟨decodesTo_encode .lsra rfl, lsrOp_doneBy.onAcc .a fun _ => rfl⟩,
    ⟨decodesTo_encode .lsrb rfl, lsrOp_doneBy.onAcc .b fun _ => rfl⟩,
    ⟨memoryForms_of_encode (fun _ => rfl) fun _ => rfl, lsrOp_doneBy.onMemory fun _ _ => rfl⟩,
    ⟨decodesTo_encode .rora rfl, rorOp_doneBy.onAcc .a fun _ => rfl⟩,
    ⟨decodesTo_encode .rorb rfl, rorOp_doneBy.onAcc .b fun _ => rfl⟩,
    ⟨memoryForms_of_encode (fun _ => rfl) fun _ => rfl, rorOp_doneBy.onMemory fun _ _ => rfl⟩⟩

/-- Settles O42: as O41, with the two operations that move the byte to the left. -/
theorem leftShiftsAndRotates : Obligations.LeftShiftsAndRotates :=
  ⟨⟨decodesTo_encode .asla rfl, aslOp_doneBy.onAcc .a fun _ => rfl⟩,
    ⟨decodesTo_encode .aslb rfl, aslOp_doneBy.onAcc .b fun _ => rfl⟩,
    ⟨memoryForms_of_encode (fun _ => rfl) fun _ => rfl, aslOp_doneBy.onMemory fun _ _ => rfl⟩,
    ⟨decodesTo_encode .rola rfl, rolOp_doneBy.onAcc .a fun _ => rfl⟩,
    ⟨decodesTo_encode .rolb rfl, rolOp_doneBy.onAcc .b fun _ => rfl⟩,
    ⟨memoryForms_of_encode (fun _ => rfl) fun _ => rfl, rolOp_doneBy.onMemory fun _ _ => rfl⟩⟩

end Sys2Proof
end

section
/-! SUPPORT. The single-operand operations of file 45 as numbers (45_inc_dec_clr_com_neg_nop.md R201, R204, R207, R210,
R213): when each result is zero, and each flag of the CC the operation gives. -/

namespace Sys2Proof.Machine

open Claims

/-! ## When the result is zero or does not fit -/

theorem sub_one_beq_zero (m : Byte) : (m - 1#8 == 0#8) = (m == 1#8) := by
  rw [Bool.eq_iff_iff, beq_iff_eq, beq_iff_eq]
  exact sub_eq_zero

theorem add_one_beq_zero (m : Byte) : (m + 1#8 == 0#8) = (m == 0xFF#8) := by
  rw [Bool.eq_iff_iff, beq_iff_eq, beq_iff_eq]
  exact add_eq_zero_iff_eq_neg

theorem not_beq_zero (m : Byte) : (~~~m == 0#8) = (m == 0xFF#8) := by
  rw [Bool.eq_iff_iff, beq_iff_eq, beq_iff_eq]
  exact BitVec.not_eq_comm

theorem zero_sub_beq_zero (m : Byte) : (0#8 - m == 0#8) = (m == 0#8) := by
  rw [Bool.eq_iff_iff, beq_iff_eq, beq_iff_eq]
  exact sub_eq_zero.trans eq_comm

/-- The lowest signed byte is the one whose opposite is no signed byte (45_inc_dec_clr_com_neg_nop.md R213). -/
theorem not_fits8_neg (m : Byte) : (!fits8 (-m.toInt)) = (m == 0x80#8) := by
  have hrange := byte_toInt_range m
  have hlowest : m = 0x80#8 ↔ m.toInt = -128 := BitVec.toInt_inj.symm
  rw [Bool.eq_iff_iff, beq_iff_eq, hlowest]
  simp only [fits8, Bool.not_eq_true', decide_eq_false_iff_not]
  omega

/-! ## Flags -/

/-- The CC of CLR, flag by flag (45_inc_dec_clr_com_neg_nop.md R201). -/
theorem ccGet_clrFlags (cc : Byte) (fl : Flag) :
    ccGet (clrFlags cc) fl =
      match fl with
      | .n => false
      | .z => true
      | .v => false
      | .c => false
      | fl => ccGet cc fl := by
  cases fl <;> simp [clrFlags]

/-- The CC of DEC, flag by flag (45_inc_dec_clr_com_neg_nop.md R204). -/
theorem ccGet_dec8 (cc m : Byte) (fl : Flag) :
    ccGet (dec8 cc m).2 fl =
      match fl with
      | .n => (m - 1#8).msb
      | .z => m == 1#8
      | .v => m == 0x80#8
      | fl => ccGet cc fl := by
  cases fl
  case z => rw [← sub_one_beq_zero]; simp [dec8, ccGet_setNZ8]
  all_goals simp [dec8, ccGet_setNZ8]

/-- The CC of INC, flag by flag (45_inc_dec_clr_com_neg_nop.md R207). -/
theorem ccGet_inc8 (cc m : Byte) (fl : Flag) :
    ccGet (inc8 cc m).2 fl =
      match fl with
      | .n => (m + 1#8).msb
      | .z => m == 0xFF#8
      | .v => m == 0x7F#8
      | fl => ccGet cc fl := by
  cases fl
  case z => rw [← add_one_beq_zero]; simp [inc8, ccGet_setNZ8]
  all_goals simp [inc8, ccGet_setNZ8]

/-- The CC of COM, flag by flag (45_inc_dec_clr_com_neg_nop.md R210). -/
theorem ccGet_com8 (cc m : Byte) (fl : Flag) :
    ccGet (com8 cc m).2 fl =
      match fl with
      | .n => !m.msb
      | .z => m == 0xFF#8
      | .v => false
      | .c => true
      | fl => ccGet cc fl := by
  cases fl
  case z => rw [← not_beq_zero]; simp [com8, ccGet_setNZ8]
  all_goals simp [com8, ccGet_setNZ8]

/-- The difference of NEG (45_inc_dec_clr_com_neg_nop.md R213). -/
theorem sub8_zero_fst (cc m : Byte) (h : Bool) : (sub8 cc 0#8 m false h).1 = 0#8 - m := by
  rw [sub8_fst]
  exact sub_zero _

/-- The CC of NEG, flag by flag; the borrow from zero is there unless the byte is zero
(45_inc_dec_clr_com_neg_nop.md R213). -/
theorem ccGet_sub8_zero (cc m : Byte) (h : Bool) (fl : Flag) :
    ccGet (sub8 cc 0#8 m false h).2 fl =
      match fl with
      | .h => h
      | .n => (0#8 - m).msb
      | .z => m == 0#8
      | .v => m == 0x80#8
      | .c => m != 0#8
      | fl => ccGet cc fl := by
  rw [ccGet_sub8, sub8_zero_fst]
  cases fl
  case z => exact zero_sub_beq_zero m
  case v => rw [← not_fits8_neg]; simp
  case c =>
    rw [Bool.eq_iff_iff, decide_eq_true_eq, bne_iff_ne]
    exact BitVec.pos_iff_ne_zero m
  all_goals rfl

end Sys2Proof.Machine
end

section
/-! SUPPORT. CLR, DEC, INC, COM and NEG (45_inc_dec_clr_com_neg_nop.md) do what their operations say, on A, B and
memory. -/

namespace Sys2Proof

open Machine Claims

/-! ## The five operations -/

theorem clrOp_doneBy : clrOp.DoneBy State.clrValue := by
  refine ByteOp.doneBy_withFlags (g := fun cc _ => (0x00#8, clrFlags cc)) (fun _ _ => rfl)
    (fun s t m (ht : t.cc = clrFlags s.cc) => ?flags) (fun cc m fl hfl => ?kept)
  case flags =>
    have hflag (fl : Flag) := ccGet_clrFlags s.cc fl
    rw [← ht] at hflag
    exact ⟨⟨hflag .n, hflag .z, hflag .v⟩, hflag .c⟩
  case kept =>
    rw [ccGet_clrFlags]
    cases fl <;> simp [clrOp, nzvc] at hfl ⊢

theorem decOp_doneBy : decOp.DoneBy State.decValue := by
  refine ByteOp.doneBy_withFlags (fun _ _ => rfl) (fun s t m ht => ?flags) (fun cc m fl hfl => ?kept)
  case flags =>
    have hflag (fl : Flag) := ccGet_dec8 s.cc m fl
    rw [← ht] at hflag
    exact ⟨hflag .n, hflag .z, hflag .v⟩
  case kept =>
    rw [ccGet_dec8]
    cases fl <;> simp [decOp, nzv] at hfl ⊢

theorem incOp_doneBy : incOp.DoneBy State.incValue := by
  refine ByteOp.doneBy_withFlags (fun _ _ => rfl) (fun s t m ht => ?flags) (fun cc m fl hfl => ?kept)
  case flags =>
    have hflag (fl : Flag) := ccGet_inc8 s.cc m fl
    rw [← ht] at hflag
    exact ⟨hflag .n, hflag .z, hflag .v⟩
  case kept =>
    rw [ccGet_inc8]
    cases fl <;> simp [incOp, nzv] at hfl ⊢

theorem comOp_doneBy : comOp.DoneBy State.comValue := by
  refine ByteOp.doneBy_withFlags (fun _ _ => rfl) (fun s t m ht => ?flags) (fun cc m fl hfl => ?kept)
  case flags =>
    have hflag (fl : Flag) := ccGet_com8 s.cc m fl
    rw [← ht] at hflag
    exact ⟨⟨hflag .n, hflag .z, hflag .v⟩, hflag .c⟩
  case kept =>
    rw [ccGet_com8]
    cases fl <;> simp [comOp, nzvc] at hfl ⊢

/-- NEG is the subtraction from zero, H its undefined bit (45_inc_dec_clr_com_neg_nop.md R213). -/
theorem negOp_doneBy : negOp.DoneBy State.negValue := by
  refine ByteOp.doneBy_undefinedH (g := fun cc m h => sub8 cc 0#8 m false h) sub8_zero_fst
    (fun s t m h ht hfree => ?flags) (fun cc m h fl hfl => ?kept) (by decide)
  case flags =>
    have hflag (fl : Flag) := ccGet_sub8_zero s.cc m h fl
    rw [← ht] at hflag
    exact ⟨⟨hflag .n, hflag .z, hflag .v⟩, hflag .c, fun hunchanged => (hflag .h).trans (hfree hunchanged)⟩
  case kept =>
    rw [ccGet_sub8_zero]
    cases fl <;> simp [negOp, nzvc] at hfl ⊢

/-! ## The instructions -/

/-- Settles O43: each instruction is its operation on A, on B or on the byte at the address; CLR's operation ignores the
byte it is given, but its memory form reads it all the same. -/
theorem clearDecrementIncrement : Obligations.ClearDecrementIncrement :=
  ⟨⟨decodesTo_encode .clra rfl, clrOp_doneBy.onAcc .a fun _ => rfl⟩,
    ⟨decodesTo_encode .clrb rfl, clrOp_doneBy.onAcc .b fun _ => rfl⟩,
    ⟨memoryForms_of_encode (fun _ => rfl) fun _ => rfl, clrOp_doneBy.onMemory fun _ _ => rfl⟩,
    ⟨decodesTo_encode .deca rfl, decOp_doneBy.onAcc .a fun _ => rfl⟩,
    ⟨decodesTo_encode .decb rfl, decOp_doneBy.onAcc .b fun _ => rfl⟩,
    ⟨memoryForms_of_encode (fun _ => rfl) fun _ => rfl, decOp_doneBy.onMemory fun _ _ => rfl⟩,
    ⟨decodesTo_encode .inca rfl, incOp_doneBy.onAcc .a fun _ => rfl⟩,
    ⟨decodesTo_encode .incb rfl, incOp_doneBy.onAcc .b fun _ => rfl⟩,
    ⟨memoryForms_of_encode (fun _ => rfl) fun _ => rfl, incOp_doneBy.onMemory fun _ _ => rfl⟩⟩

/-- Settles O44: as O43; only NEG's operation draws a free value, for H. -/
theorem complementAndNegate : Obligations.ComplementAndNegate :=
  ⟨⟨decodesTo_encode .coma rfl, comOp_doneBy.onAcc .a fun _ => rfl⟩,
    ⟨decodesTo_encode .comb rfl, comOp_doneBy.onAcc .b fun _ => rfl⟩,
    ⟨memoryForms_of_encode (fun _ => rfl) fun _ => rfl, comOp_doneBy.onMemory fun _ _ => rfl⟩,
    ⟨decodesTo_encode .nega rfl, negOp_doneBy.onAcc .a fun _ => rfl⟩,
    ⟨decodesTo_encode .negb rfl, negOp_doneBy.onAcc .b fun _ => rfl⟩,
    ⟨memoryForms_of_encode (fun _ => rfl) fun _ => rfl, negOp_doneBy.onMemory fun _ _ => rfl⟩⟩

end Sys2Proof
end

section
/-! SUPPORT. The flags as an order (46_test_compare.md R233): equality, the unsigned and the signed order of two numbers
from the flags of their difference, and the signed order with zero from the flags of a value. -/

namespace Sys2Proof.Machine

open Claims

/-! ## The sign of a difference -/

/-- The sign of a difference, corrected by its signed overflow, is the signed order (46_test_compare.md R233): on overflow
the operands have opposite signs, and the difference has that of the second. -/
theorem msb_sub_xor_ssubOverflow {w : Nat} (x y : BitVec w) :
    ((x - y).msb ^^ x.ssubOverflow y) = decide (x.toInt < y.toInt) := by
  by_cases hover : x.ssubOverflow y = true
  · have hsigns := (BitVec.ssubOverflow_eq x y).symm.trans hover
    have hopposite : x.msb = !y.msb ∧ (x - y).msb = y.msb := by
      revert hsigns
      cases x.msb <;> cases y.msb <;> cases (x - y).msb <;> decide
    obtain ⟨hxy, hdiff⟩ := hopposite
    rw [BitVec.msb_eq_toInt, BitVec.msb_eq_toInt, ← decide_not, decide_eq_decide] at hxy
    rw [hover, Bool.xor_true, hdiff, BitVec.msb_eq_toInt, ← decide_not, decide_eq_decide]
    omega
  · have hsub := BitVec.toInt_sub_of_not_ssubOverflow hover
    rw [Bool.not_eq_true] at hover
    rw [hover, Bool.xor_false, BitVec.msb_eq_toInt, hsub, decide_eq_decide]
    omega

theorem not_fits8_sub (v m : Byte) : (!fits8 (v.toInt - m.toInt)) = v.ssubOverflow m := by
  rw [Bool.eq_iff_iff]
  simp only [fits8, BitVec.ssubOverflow, Bool.not_eq_true', decide_eq_false_iff_not, Bool.or_eq_true, decide_eq_true_eq]
  omega

theorem not_fits16_sub (v m : Word) : (!fits16 (v.toInt - m.toInt)) = v.ssubOverflow m := by
  rw [Bool.eq_iff_iff]
  simp only [fits16, BitVec.ssubOverflow, Bool.not_eq_true', decide_eq_false_iff_not, Bool.or_eq_true, decide_eq_true_eq]
  omega

theorem sub_beq_zero {w : Nat} (x y : BitVec w) : (x - y == 0#w) = (x == y) := by
  rw [Bool.eq_iff_iff, beq_iff_eq, beq_iff_eq]
  exact sub_eq_zero

/-! ## The flags of a difference -/

/-- Z, C and N xor V of the state say whether two numbers are equal, in the unsigned order and in the signed one
(46_test_compare.md R233). -/
structure OrderFlags (t : State) (eq ltu lts : Bool) : Prop where
  z : ccGet t.cc .z = eq
  c : ccGet t.cc .c = ltu
  nv : (ccGet t.cc .n ^^ ccGet t.cc .v) = lts

theorem orderFlags_of_differenceFlags8 {s t : State} {v m : Byte} (h : differenceFlags8 s t v m false) :
    OrderFlags t (v == m) (decide (v.toNat < m.toNat)) (decide (v.toInt < m.toInt)) := by
  obtain ⟨hc, ⟨hn, hz, hv⟩, -⟩ := h
  simp only [Bool.toNat_false, BitVec.sub_zero, Nat.add_zero, Int.sub_zero, Nat.cast_zero] at hc hn hz hv
  exact ⟨hz.trans (sub_beq_zero v m), hc, by rw [hn, hv, not_fits8_sub, msb_sub_xor_ssubOverflow]⟩

theorem orderFlags_of_differenceFlags16 {t : State} {v m : Word} (h : differenceFlags16 t v m) :
    OrderFlags t (v == m) (decide (v.toNat < m.toNat)) (decide (v.toInt < m.toInt)) := by
  obtain ⟨hc, hn, hz, hv⟩ := h
  exact ⟨hz.trans (sub_beq_zero v m), hc, by rw [hn, hv, not_fits16_sub, msb_sub_xor_ssubOverflow]⟩

/-! ## The flags of a value -/

/-- The flags of a test compare the value with zero (46_test_compare.md R233): N is its sign, and V is 0. -/
theorem condHolds_of_nzvAre {t : State} {v : Byte} (h : nzvAre t v.msb (v == 0#8) false) :
    condHolds t.cc .lt = decide (v.toInt < 0) ∧ condHolds t.cc .ge = decide (0 ≤ v.toInt) ∧
      condHolds t.cc .gt = decide (0 < v.toInt) ∧ condHolds t.cc .le = decide (v.toInt ≤ 0) := by
  obtain ⟨hn, hz, hv⟩ := h
  have hsign : (ccGet t.cc .n ^^ ccGet t.cc .v) = decide (v.toInt < 0) := by
    rw [hn, hv, Bool.xor_false, BitVec.msb_eq_toInt]
  have hzero : ccGet t.cc .z = decide (v.toInt = 0) := by
    rw [hz, Bool.eq_iff_iff, beq_iff_eq, decide_eq_true_eq, ← BitVec.toInt_inj, BitVec.toInt_zero]
  simp only [condHolds, hsign, hzero, ← decide_not, ← Bool.decide_or, ← Bool.decide_and, decide_eq_decide, true_and]
  omega

end Sys2Proof.Machine
end

section
/-! SUPPORT. The tests and compares of file 46 on the state: what a compare changes, and the claims' shapes `testsBits`,
`compares8` and `compares16` from the equation of one instruction. -/

namespace Sys2Proof.Machine

open Claims

theorem exec_tsta (s : State) : exec .tsta s = .next (s.setLogicFlags8 s.a) := rfl

theorem exec_tstb (s : State) : exec .tstb s = .next (s.setLogicFlags8 s.b) := rfl

theorem State.compare16_changes (s : State) (v m : Word) : changesOnly nzvc s (s.compare16 v m) :=
  s.setCC_changes _ nzvc fun _ hfl => ccGet_sub16_of_notMem_nzvc _ _ _ hfl

/-- An instruction that obtains an operand and writes the flags of its AND with an accumulator is a bit test; the
accumulator it reads is the one from before the operand. -/
theorem testsBits_of_exec {k : Operand8 → Instr} (acc : Acc)
    (hexec : ∀ op s, exec (k op) s =
      .next ((s.operand8 op).2.setLogicFlags8 ((s.operand8 op).2.getAcc acc &&& (s.operand8 op).1))) :
    testsBits k (fun s => s.getAcc acc) := by
  intro op s
  refine ⟨_, hexec op s, ?flags, .of (s.operand8_changes op) (State.setLogicFlags8_changes _ _)⟩
  case flags =>
    rw [State.operand8_getAcc]
    exact State.setLogicFlags8_nzv _ _

/-- An instruction that obtains an operand and compares an accumulator with it is an 8-bit compare. -/
theorem compares8_of_exec {k : Operand8 → Instr} (acc : Acc)
    (hexec : ∀ op s, exec (k op) s =
      .next ((s.operand8 op).2.compare8 ((s.operand8 op).2.getAcc acc) (s.operand8 op).1)) :
    compares8 k (fun s => s.getAcc acc) := by
  intro op s
  refine ⟨_, hexec op s, ?flags, .of (s.operand8_changes op) (State.subtract8_changes _ _ _ _)⟩
  case flags =>
    rw [State.operand8_getAcc]
    have hflags := (s.operand8 op).2.subtract8_differenceFlags8 (s.getAcc acc) (s.operand8 op).1 false
    exact differenceFlags8_congr hflags (s.operand8_changes op).1.2.2.symm (s.operand8_flag op .h).symm rfl

/-- An instruction that obtains an operand and compares with it a register, as the operand left it, is a 16-bit
compare. -/
theorem compares16_of_exec {k : Operand16 → Instr} {get : State → Word}
    (hexec : ∀ op s, exec (k op) s =
      .next ((s.operand16 op).2.compare16 (get (s.operand16 op).2) (s.operand16 op).1)) :
    compares16 k get := fun op s =>
  ⟨_, hexec op s, differenceFlags16_of_sub16 rfl, .of (s.operand16_changes op) (State.compare16_changes _ _ _)⟩

/-! ## The order after a compare or a subtraction (46_test_compare.md R233) -/

/-- The instruction leaves the order of the register and its 8-bit operand in the flags. -/
def orders8 (k : Operand8 → Instr) (get : State → Byte) : Prop :=
  ∀ op s, ∃ t, exec (k op) s = .next t ∧
    OrderFlags t (get s == (s.operand8 op).1) (decide ((get s).toNat < (s.operand8 op).1.toNat))
      (decide ((get s).toInt < (s.operand8 op).1.toInt))

/-- As `orders8` for a 16-bit operand and the register that obtaining it leaves. -/
def orders16 (k : Operand16 → Instr) (get : State → Word) : Prop :=
  ∀ op s, ∃ t, exec (k op) s = .next t ∧
    OrderFlags t (get (s.operand16 op).2 == (s.operand16 op).1)
      (decide ((get (s.operand16 op).2).toNat < (s.operand16 op).1.toNat))
      (decide ((get (s.operand16 op).2).toInt < (s.operand16 op).1.toInt))

theorem orders8_of_compares8 {k : Operand8 → Instr} {get : State → Byte} (h : compares8 k get) : orders8 k get := by
  intro op s
  obtain ⟨t, hexec, hflags, -⟩ := h op s
  exact ⟨t, hexec, orderFlags_of_differenceFlags8 hflags⟩

theorem orders8_of_subtracts8 {k : Operand8 → Instr} {acc : Part} {get : State → Byte}
    (h : subtracts8 k acc get fun _ => false) : orders8 k get := by
  intro op s
  obtain ⟨t, hexec, -, hflags, -⟩ := h op s
  exact ⟨t, hexec, orderFlags_of_differenceFlags8 hflags⟩

theorem orders16_of_compares16 {k : Operand16 → Instr} {get : State → Word} (h : compares16 k get) :
    orders16 k get := by
  intro op s
  obtain ⟨t, hexec, hflags, -⟩ := h op s
  exact ⟨t, hexec, orderFlags_of_differenceFlags16 hflags⟩

end Sys2Proof.Machine
end

section
/-! SUPPORT. Tests and compares (46_test_compare.md): BIT, TST, the seven compares, and the order the branches see. -/

namespace Sys2Proof

open Machine Claims

/-- Settles O45: no operand touches an accumulator; the one read of TST is the operand of its memory form. -/
theorem bitTestsAndTests : Obligations.BitTestsAndTests :=
  ⟨⟨operandForms8_of_encode (fun _ => rfl) fun _ => rfl, testsBits_of_exec .a fun op s => exec_bita s op⟩,
    ⟨operandForms8_of_encode (fun _ => rfl) fun _ => rfl, testsBits_of_exec .b fun op s => exec_bitb s op⟩,
    ⟨decodesTo_encode .tsta rfl,
      fun s => ⟨_, exec_tsta s, s.setLogicFlags8_nzv s.a, s.setLogicFlags8_changes s.a⟩⟩,
    ⟨decodesTo_encode .tstb rfl,
      fun s => ⟨_, exec_tstb s, s.setLogicFlags8_nzv s.b, s.setLogicFlags8_changes s.b⟩⟩,
    ⟨memoryForms_of_encode (fun _ => rfl) fun _ => rfl, fun m s =>
      ⟨_, exec_tst s m, State.setLogicFlags8_nzv _ _,
        .of (s.operand8_changes (.mem m)) (State.setLogicFlags8_changes _ _)⟩⟩⟩

/-- Settles O46: no operand touches an accumulator, but an auto increment or decrement form may move the register that a
16-bit compare then reads. -/
theorem comparesWriteFlagsOnly : Obligations.ComparesWriteFlagsOnly :=
  ⟨⟨operandForms8_of_encode (fun _ => rfl) fun _ => rfl, compares8_of_exec .a fun op s => exec_cmpa s op⟩,
    ⟨operandForms8_of_encode (fun _ => rfl) fun _ => rfl, compares8_of_exec .b fun op s => exec_cmpb s op⟩,
    ⟨operandForms16_of_encode (fun _ => rfl) fun _ => rfl, compares16_of_exec fun op s => exec_cmpd s op⟩,
    ⟨operandForms16_of_encode (fun _ => rfl) fun _ => rfl, compares16_of_exec fun op s => exec_cmpx s op⟩,
    ⟨operandForms16_of_encode (fun _ => rfl) fun _ => rfl, compares16_of_exec fun op s => exec_cmpy s op⟩,
    ⟨operandForms16_of_encode (fun _ => rfl) fun _ => rfl, compares16_of_exec fun op s => exec_cmpu s op⟩,
    ⟨operandForms16_of_encode (fun _ => rfl) fun _ => rfl, compares16_of_exec fun op s => exec_cmps s op⟩⟩

theorem orders16_subd : orders16 .subd State.d := by
  obtain ⟨-, -, -, hsubd⟩ := sixteenBitSumAndDifference
  intro op s
  obtain ⟨t, hexec, -, hflags, -⟩ := hsubd op s
  rw [State.operand16_d]
  exact ⟨t, hexec, orderFlags_of_differenceFlags16 hflags⟩

/-- Settles O47: the compares of O46 and the subtractions of O32 and O33 leave the flags of a difference, the tests of O45
those of a value and C as it was. -/
theorem branchesAfterCompareFollowTheOrder : Obligations.BranchesAfterCompareFollowTheOrder := by
  obtain ⟨⟨-, hcmpa⟩, ⟨-, hcmpb⟩, ⟨-, hcmpd⟩, ⟨-, hcmpx⟩, ⟨-, hcmpy⟩, ⟨-, hcmpu⟩, -, hcmps⟩ := comparesWriteFlagsOnly
  obtain ⟨⟨-, hsuba⟩, ⟨-, hsubb⟩, -⟩ := eightBitSubtractions
  obtain ⟨-, -, ⟨-, htsta⟩, ⟨-, htstb⟩, -, htst⟩ := bitTestsAndTests
  unfold Obligations.BranchesAfterCompareFollowTheOrder
  intro order order8 order16 tested
  have follows {t : State} {eq ltu lts : Bool} (h : OrderFlags t eq ltu lts) : order t eq ltu lts := by
    simp [order, condHolds, h.z, h.c, h.nv, Bool.or_comm, Bool.and_comm]
  have follows8 {k : Operand8 → Instr} {get : State → Byte} (h : orders8 k get) : order8 k get := fun op s =>
    (h op s).imp fun _ => And.imp_right follows
  have follows16 {k : Operand16 → Instr} {get : State → Word} (h : orders16 k get) : order16 k get := fun op s =>
    (h op s).imp fun _ => And.imp_right follows
  have tests {i : Instr} {v : State → Byte} (obtained : State → State)
      (hc : ∀ s, ccGet (obtained s).cc .c = ccGet s.cc .c)
      (h : ∀ s, ∃ t, exec i s = .next t ∧ nzvAre t (v s).msb (v s == 0#8) false ∧ changesOnly nzv (obtained s) t) :
      tested i v := by
    intro s
    obtain ⟨t, hexec, hflags, hframe⟩ := h s
    obtain ⟨hlt, hge, hgt, hle⟩ := condHolds_of_nzvAre hflags
    have hkept : ccGet t.cc .c = ccGet s.cc .c := (hframe.2 (.flag .c) (by decide)).trans (hc s)
    exact ⟨t, hexec, hlt, hge, hgt, hle, hkept ▸ Bool.and_comm _ _⟩
  exact ⟨⟨follows8 (orders8_of_compares8 hcmpa), follows8 (orders8_of_compares8 hcmpb),
      follows8 (orders8_of_subtracts8 hsuba), follows8 (orders8_of_subtracts8 hsubb)⟩,
    ⟨follows16 (orders16_of_compares16 hcmpd), follows16 (orders16_of_compares16 hcmpx),
      follows16 (orders16_of_compares16 hcmpy), follows16 (orders16_of_compares16 hcmpu),
      follows16 (orders16_of_compares16 hcmps), follows16 orders16_subd⟩,
    tests id (fun _ => rfl) htsta, tests id (fun _ => rfl) htstb,
    fun m => tests (fun s => (s.operand8 (.mem m)).2) (fun s => s.operand8_flag (.mem m) .c) fun s =>
      (htst m s).imp fun _ ⟨hexec, hflags, hframe, _⟩ => ⟨hexec, hflags, hframe⟩⟩

end Sys2Proof
end

section
/-! SUPPORT. The branches (47_branches.md R241 to R243): what a branch does to PC, and what each row of the table of
conditions says of the model, both encodings included. -/

namespace Sys2Proof.Machine

theorem State.branch_changes (s : State) (c : Cond) (rel : Word) : changesOnly [.pc] s (s.branch c rel) := by
  unfold State.branch
  split
  · exact s.setPC_changes _
  · exact (changesOnly_refl s).mono (by simp)

theorem State.branch_pc (s : State) (c : Cond) (rel : Word) :
    (s.branch c rel).pc = if condHolds s.cc c then s.pc + rel else s.pc := by
  unfold State.branch
  split <;> rfl

end Sys2Proof.Machine

namespace Sys2Proof.Claims

open Machine

/-- The formula of each row says when the model takes the branch (47_branches.md R241); the model writes the signed order
as N xor V, the table as equality of N and V. -/
theorem condHolds_eq_taken : ∀ r ∈ branchTable, ∀ s, condHolds s.cc r.cond = r.taken s := by
  have hsigned (n v : Bool) : (n == v) = !(n ^^ v) := by revert n v; decide
  simp [branchTable, condHolds, BranchRow.taken, hsigned]

/-- What a row says of its two instructions: their meaning as branches of the model, and their encoding. -/
structure BranchRow.Implemented (r : BranchRow) : Prop where
  short_exec : ∀ d s, exec (r.short d) s = .next (s.branch r.cond (sext8 d))
  long_exec : ∀ v s, exec (r.long v) s = .next (s.branch r.cond v)
  short_wellFormed : ∀ d, (r.short d).wellFormed = true
  long_wellFormed : ∀ v, (r.long v).wellFormed = true
  short_encode : ∀ d, encode (r.short d) = [r.shortOpcode, d]
  long_encode : ∀ v, encode (r.long v) = r.longOpcode ++ [highByte v, lowByte v]

/-- Row by row, read off the model's own table of meanings and the encoder's of opcodes. -/
theorem branchTable_implemented : ∀ r ∈ branchTable, r.Implemented := by
  intro r hr
  fin_cases hr <;>
    exact ⟨fun _ _ => rfl, fun _ _ => rfl, fun _ => rfl, fun _ => rfl, fun _ => rfl, fun _ => rfl⟩

/-- A branch of the model by the signed displacement `d` is what the row says of its instruction. -/
theorem BranchRow.branches_of_exec {r : BranchRow} {i : Instr} {rel : Word} {d : Int}
    (hcond : ∀ s, condHolds s.cc r.cond = r.taken s) (hexec : ∀ s, exec i s = .next (s.branch r.cond rel))
    (hrel : BitVec.ofInt 16 d = rel) : r.branches i d := by
  intro s
  refine ⟨_, hexec s, ?_, s.branch_changes r.cond rel⟩
  rw [State.branch_pc, hcond, hrel]

end Sys2Proof.Claims

namespace Sys2Proof

open Machine Claims

/-- Settles O48: each row's instructions are the model's branch under its condition, whose formula the row gives. -/
theorem branchesFollowTheirConditions : Obligations.BranchesFollowTheirConditions := by
  refine ⟨fun r hr => ?rows, condHolds_eq_taken, fun cc => ?pairs⟩
  case rows =>
    obtain ⟨hshort, hlong, hshortWf, hlongWf, hshortEnc, hlongEnc⟩ := branchTable_implemented r hr
    have hcond := condHolds_eq_taken r hr
    refine ⟨fun d => ⟨decodesTo_of_encode (hshortWf d) (hshortEnc d), BranchRow.branches_of_exec hcond (hshort d) rfl⟩,
      fun h l => ⟨decodesTo_of_encode (hlongWf _) ?_, BranchRow.branches_of_exec hcond (hlong _) BitVec.ofInt_toInt⟩⟩
    rw [hlongEnc, highByte_joinBytes, lowByte_joinBytes]
  case pairs => simp [condHolds]

end Sys2Proof
end

section
/-! SUPPORT. S as the stack of calls and exceptions (48_jumps_subroutines_lea.md R282, 49_interrupt_instructions.md R303,
R307): their pushes and pulls are those of a postbyte, and what was pushed on RAM is pulled again, whatever happened to the
registers in between. -/

namespace Sys2Proof.Machine

open Claims

/-! ## Frames -/

/-- A part that is the same after all leaves the frame. -/
theorem changesOnly.of_same {p : Part} {ps : List Part} {s t : State} (h : changesOnly (p :: ps) s t) (hp : p.same s t) :
    changesOnly ps s t := by
  refine ⟨h.1, fun q hq => ?_⟩
  by_cases heq : q = p
  · exact heq ▸ hp
  · exact h.2 q (by simp [heq, hq])

theorem changesOnly.nmiArming {ps : List Part} {s t : State} (h : changesOnly ps s t) : t.nmiArming = s.nmiArming :=
  h.1.2.1

/-! ## Pushes on RAM -/

/-- RAM below a stack pointer is RAM for every shorter stretch below it. -/
theorem State.ramAt_below_of_le {s : State} {sp : Word} {m n : Nat} (h : s.ramAt (sp - BitVec.ofNat 16 m) m)
    (hle : n ≤ m) : s.ramAt (sp - BitVec.ofNat 16 n) n := by
  rw [State.ramAt_iff] at h ⊢
  intro k hk
  have haddr : sp - BitVec.ofNat 16 n + BitVec.ofNat 16 k = sp - BitVec.ofNat 16 m + BitVec.ofNat 16 (m - n + k) := by
    bv_omega
  exact haddr ▸ h (m - n + k) (by omega)

theorem changesOnly.ramAt {ps : List Part} {s t : State} (h : changesOnly ps s t) {a : Word} {n : Nat} :
    t.ramAt a n ↔ s.ramAt a n := by
  simp only [State.ramAt_iff, h.kindAt]

theorem State.kindAt_pushedBytes_of_ram {s : State} {sp : Word} {l : List Byte}
    (hram : s.ramAt (sp - BitVec.ofNat 16 l.length) l.length) : ∀ q ∈ pushedBytes sp l, s.kindAt q.1 = .ram := by
  intro q hq
  obtain ⟨k, hk, haddr⟩ := address_of_mem_pushedBytes hq
  have hoffset : q.1 = sp - BitVec.ofNat 16 l.length + BitVec.ofNat 16 (l.length - 1 - k) := by
    rw [haddr]
    bv_omega
  exact hoffset ▸ State.ramAt_iff.1 hram (l.length - 1 - k) (by omega)

theorem State.pushRegisters_s (s : State) (pb : Byte) :
    (s.pushRegisters .s pb).s = s.s - BitVec.ofNat 16 (pullOffset pb 8) := s.pushRegisters_getSP .s pb

section
variable {s : State} {pb : Byte}

theorem State.kindAt_stackFrame_of_ram (hram : s.ramAt (s.s - BitVec.ofNat 16 (pullOffset pb 8)) (pullOffset pb 8)) :
    ∀ q ∈ pushedBytes s.s (s.stackFrame .s pb 8).reverse, s.kindAt q.1 = .ram :=
  State.kindAt_pushedBytes_of_ram (by rwa [List.length_reverse, State.stackFrame_length])

/-- The frame lies from the stack pointer up after a push on RAM. -/
theorem State.pushRegisters_s_holdsBytes (hwf : s.mem.wf = true)
    (hram : s.ramAt (s.s - BitVec.ofNat 16 (pullOffset pb 8)) (pullOffset pb 8)) :
    (s.pushRegisters .s pb).holdsBytes (s.pushRegisters .s pb).s (s.stackFrame .s pb 8) := by
  obtain ⟨-, hstored, -⟩ := s.pushRegisters_stores .s pb hwf
  have h := State.holdsBytes_of_pushedBytes (t := s.pushRegisters .s pb) fun q hq =>
    have hkind := State.kindAt_stackFrame_of_ram hram q hq
    ⟨((s.pushRegisters_changes .s pb).kindAt q.1).trans hkind, (hstored q hq).trans (if_pos hkind)⟩
  rwa [List.reverse_reverse, List.length_reverse, State.stackFrame_length, ← s.pushRegisters_s] at h

/-- No device sees a push on RAM. -/
theorem State.pushRegisters_s_changes_of_ram (hwf : s.mem.wf = true)
    (hram : s.ramAt (s.s - BitVec.ofNat 16 (pullOffset pb 8)) (pullOffset pb 8)) :
    changesOnly [.s, .mem] s (s.pushRegisters .s pb) := by
  obtain ⟨-, -, hlog⟩ := s.pushRegisters_stores .s pb hwf
  have hnone : (pushedBytes s.s (s.stackFrame .s pb 8).reverse).filter (fun q => s.kindAt q.1 == .device) = [] :=
    List.filter_eq_nil_iff.2 fun q hq => by simp [State.kindAt_stackFrame_of_ram hram q hq]
  refine ((s.pushRegisters_changes .s pb).mono (qs := [.devices, .s, .mem]) (by decide)).of_same ?_
  exact hlog.trans (by simp [State.getSP, hnone])

end

/-! ## Pulls from S -/

/-- A pull from S loads no S, so it does not arm NMI (60_exceptions.md R331). -/
theorem State.pullRegisters_s_changes (s : State) (pb : Byte) :
    changesOnly (.s :: .devices :: .draws :: pulledParts .s pb 8) s (s.pullRegisters .s pb) := by
  obtain ⟨-, -, -, harms, hframe⟩ := s.pullRegisters_pulled .s pb
  rw [pulledLoadsS_eight] at harms
  exact hframe.of_not_arming harms

/-- Where the frame of `s` lies at S, and all that differs from `s` is S, what the pull loads, and `ps`, the pull gives back
all but `ps`. -/
theorem State.pullRegisters_restores {s t : State} {pb : Byte} {changed ps : List Part}
    (hframe : changesOnly changed s t) (hpointer : t.s = s.s - BitVec.ofNat 16 (pullOffset pb 8))
    (hold : t.holdsBytes t.s (s.stackFrame .s pb 8))
    (hchanged : ∀ q ∈ changed, q = .s ∨ q ∈ pulledParts .s pb 8 ∨ q ∈ ps) :
    changesOnly ps s (t.pullRegisters .s pb) := by
  obtain ⟨hloaded, hbus⟩ := State.pullRegisters_of_holdsBytes (p := .s) (s.stackFrame_length .s pb 8) hold
  have hpulled := t.pullRegisters_s_changes pb
  refine ⟨(hframe.trans hpulled).1, fun q hq => ?_⟩
  by_cases hselected : q ∈ pulledParts .s pb 8
  · obtain ⟨i, hi, hsel, hpart⟩ := exists_bit_of_mem_pulledParts hselected
    refine Part.same_of_regBytes ?_ hpart
    rw [State.regBytes_eq_of_stackFrame _ .s pb hi hsel, hloaded, ← State.regBytes_eq_of_stackFrame s .s pb hi hsel]
  by_cases hstack : q = .s
  · subst hstack
    have hmoved := (t.pullRegisters_pulled .s pb).pointer
    simp only [State.getSP] at hmoved
    exact hmoved.trans (by rw [hpointer, BitVec.sub_add_cancel])
  have hkept : q.same s t := hframe.2 q fun hmem => by simpa [hstack, hselected, hq] using hchanged q hmem
  refine Part.same_trans hkept ?_
  by_cases hdevices : q = .devices
  · exact hdevices ▸ hbus.log
  by_cases hdraws : q = .draws
  · exact hdraws ▸ hbus.draws
  exact hpulled.2 q (by simp [*])

end Sys2Proof.Machine
end

section
/-! SUPPORT. Calls, RTS and LEA (48_jumps_subroutines_lea.md): a call pushes PC and goes to its target, RTS reads it back. -/

namespace Sys2Proof.Machine

open Claims

@[simp] theorem State.resolveEA_pc (s : State) (m : MemOperand) : (s.resolveEA m).2.pc = s.pc :=
  (s.resolveEA_changes m).2 .pc fun h => absurd (mem_operandParts_of_touched h) (by decide)

/-- No address arms NMI, those that move S included (60_exceptions.md R331). -/
@[simp] theorem State.resolveEA_nmiArmed (s : State) (m : MemOperand) : (s.resolveEA m).2.nmiArmed = s.nmiArmed :=
  (s.resolveEA_changes m).2 .nmiArmed fun h => absurd (mem_operandParts_of_touched h) (by decide)

@[simp] theorem State.indexedEA_nmiArmed (s : State) (ix : Indexed) : (s.indexedEA ix).2.nmiArmed = s.nmiArmed :=
  s.resolveEA_nmiArmed (.idx ix)

/-! ## Calls -/

theorem exec_bsr (d : Byte) (s : State) : exec (.bsr d) s = .next (s.call (s.pc + sext8 d)) := rfl

theorem exec_lbsr (d : Word) (s : State) : exec (.lbsr d) s = .next (s.call (s.pc + d)) := rfl

/-- A call pushes what PSHS with bit 7 pushes. -/
theorem State.call_eq (s : State) (target : Word) : s.call target = (s.pushRegisters .s 0x80#8).setPC target := rfl

theorem State.call_changes (s : State) (target : Word) :
    changesOnly [.pc, .s, .mem, .devices] s (s.call target) :=
  (s.pushRegisters_changes .s 0x80#8).then (State.setPC_changes _ target) (by simp [StackPtr.part])

theorem State.call_callsFrom (s : State) (target : Word) (hwf : s.mem.wf = true) :
    callsFrom s (s.call target) target :=
  ⟨rfl, s.pushRegisters_s 0x80#8, (s.pushRegisters_stores .s 0x80#8 hwf).congr ⟨rfl, rfl, rfl⟩ ⟨rfl, rfl⟩⟩

/-! ## RTS -/

/-- RTS pulls what PULS with bit 7 pulls. -/
theorem exec_rts_pullRegisters (s : State) : exec .rts s = .next (s.pullRegisters .s 0x80#8) := rfl

theorem State.pull16_s (s : State) : s.pull16 .s = ((s.readWord s.s).1, (s.readWord s.s).2.setS (s.s + 2#16)) :=
  s.pull16_eq .s

/-- RTS after a call with the stack in RAM gives back everything but memory, PC and S included (R286). -/
theorem State.pull_after_call_changes {s : State} (target : Word) (hwf : s.mem.wf = true)
    (hram : s.ramAt (s.s - 2#16) 2) : changesOnly [.mem] s ((s.call target).pullRegisters .s 0x80#8) := by
  refine State.pullRegisters_restores
    ((State.pushRegisters_s_changes_of_ram (pb := 0x80#8) hwf hram).trans (State.setPC_changes _ target))
    (s.pushRegisters_s 0x80#8) ?_ (by decide)
  exact (State.setPC_holdsBytes _ _ _ _).2 (State.pushRegisters_s_holdsBytes (pb := 0x80#8) hwf hram)

/-! ## LEA -/

theorem State.setFlag_changes (s : State) (fl : Flag) (v : Bool) :
    changesOnly [.flag fl] s (s.setCC (ccPut s.cc fl v)) :=
  s.setCC_changes _ _ fun gl hgl => by simp_all

theorem State.leas_armsIf (s : State) (ix : Indexed) :
    armsIf true s ((s.indexedEA ix).2.loadS false (s.indexedEA ix).1) := by
  simp [armsIf, (s.indexedEA_changes ix).nmiArming]

end Sys2Proof.Machine

namespace Sys2Proof

open Machine Claims

/-- Settles O49: the address of JSR is obtained first and keeps PC, so the call pushes the address of the next
instruction. -/
theorem jumpsAndCalls : Obligations.JumpsAndCalls := by
  refine ⟨memoryForms_of_encode (fun _ => rfl) fun _ => rfl, memoryForms_of_encode (fun _ => rfl) fun _ => rfl,
    fun d => decodesTo_encode (.bsr d) rfl, fun h l => decodesTo_of_encode (i := .lbsr (joinBytes h l)) rfl ?lbsrBytes,
    fun m s => ⟨_, exec_jmp s m, rfl, .of (s.resolveEA_changes m) (State.setPC_changes _ _)⟩,
    fun m s hwf => ⟨_, exec_jsr s m, ?calls, ?outside, .of (s.resolveEA_changes m) (State.call_changes _ _)⟩,
    fun d s hwf => ⟨_, exec_bsr d s, s.call_callsFrom _ hwf, s.call_changes _⟩,
    fun d s hwf => ⟨_, exec_lbsr d s, s.call_callsFrom _ hwf, s.call_changes _⟩⟩
  case lbsrBytes => simp [encode]
  case calls => exact State.call_callsFrom _ _ (s.resolveEA_mem m ▸ hwf)
  case outside =>
    obtain ⟨-, -, hstored⟩ := (s.resolveEA m).2.call_callsFrom (s.resolveEA m).1 (s.resolveEA_mem m ▸ hwf)
    rw [← s.resolveEA_pc m]
    exact hstored.keepsOutside (s.resolveEA_mem m)

/-- Settles O50: RTS reads the word at S, and what lies there after a call on RAM is the PC pushed. -/
theorem rtsPullsPcAndUndoesACall : Obligations.RtsPullsPcAndUndoesACall := by
  refine ⟨decodesTo_encode .rts rfl, fun s => ⟨_, exec_rts s, ?pulls⟩,
    fun m s hwf hram => ⟨_, _, exec_jsr s m, exec_rts_pullRegisters _, ?jsr⟩,
    fun d s hwf hram => ⟨_, _, exec_bsr d s, exec_rts_pullRegisters _, State.pull_after_call_changes _ hwf hram⟩,
    fun d s hwf hram => ⟨_, _, exec_lbsr d s, exec_rts_pullRegisters _, State.pull_after_call_changes _ hwf hram⟩⟩
  case pulls =>
    rw [s.pull16_s]
    exact ⟨rfl, rfl, rfl, rfl,
      (s.readWord_changes s.s).then ((State.setS_changes _ _).trans (State.setPC_changes _ _)) (by simp)⟩
  case jsr =>
    have hback := State.pull_after_call_changes (s.resolveEA m).1 (s.resolveEA_mem m ▸ hwf)
      ((s.resolveEA_changes m).ramAt.2 hram)
    exact ⟨(hback.2 .pc (by decide)).trans (s.resolveEA_pc m), hback⟩

/-- Settles O51: each LEA puts the address in its register; the address written to X or Y is what Z speaks of, and LEAS is a
load of S after a form that does not arm NMI. -/
theorem loadEffectiveAddress : Obligations.LoadEffectiveAddress := by
  refine ⟨fun ix => ⟨decodesTo_encode (.leax ix) rfl, decodesTo_encode (.leay ix) rfl, decodesTo_encode (.leas ix) rfl,
      decodesTo_encode (.leau ix) rfl⟩,
    fun ix s => ⟨_, exec_leax s ix, rfl,
      .of (s.indexedEA_changes ix) ((State.setX_changes _ _).trans (State.setFlag_changes _ .z _))⟩,
    fun ix s => ⟨_, exec_leay s ix, rfl,
      .of (s.indexedEA_changes ix) ((State.setY_changes _ _).trans (State.setFlag_changes _ .z _))⟩,
    fun ix s => ⟨_, exec_leas s ix, rfl, .of (s.indexedEA_changes ix) (State.loadS_changes _ _ _)⟩,
    fun ix s => ⟨_, exec_leau s ix, rfl, .of (s.indexedEA_changes ix) (State.setU_changes _ _)⟩,
    fun ix s t => ⟨fun h => ?leax, fun h => ?leay, fun h => ?leas⟩⟩
  case leax =>
    obtain rfl := Host.Outcome.next.inj ((exec_leax s ix).symm.trans h)
    simp
  case leay =>
    obtain rfl := Host.Outcome.next.inj ((exec_leay s ix).symm.trans h)
    simp
  case leas =>
    obtain rfl := Host.Outcome.next.inj ((exec_leas s ix).symm.trans h)
    exact s.leas_armsIf ix

end Sys2Proof
end

section
/-! SUPPORT. The entry of an exception in its two parts (60_exceptions.md R320, R326, R328): the frame pushed on S, and PC
read from the vector. -/

namespace Sys2Proof.Machine

open Claims

/-! ## The frame -/

/-- The postbyte of the PSHS that pushes the frame of an event, and of the PULS that pulls it. -/
def Event.postbyte (ev : Event) : Byte := if ev.entire then 0xFF#8 else 0x81#8

/-- The state whose registers are pushed: E says which frame it is (60_exceptions.md R328). -/
def State.markFrame (s : State) (ev : Event) : State := s.setCC (ccPut s.cc .e ev.entire)

/-- The bytes of the frame in the order they are pushed. -/
def State.frameBytes (s : State) (ev : Event) : List Byte :=
  if ev.entire then s.entireFrame (ccPut s.cc .e true) else [lowByte s.pc, highByte s.pc, ccPut s.cc .e false]

theorem State.pushEntire_eq (s : State) : s.pushEntire = s.pushRegisters .s 0xFF#8 := by
  simp [State.pushEntire, State.pushRegisters, State.push16If, State.push8If, State.getOtherSP]

theorem State.pushShort_eq (s : State) :
    (s.push16 .s s.pc).push8 .s (s.push16 .s s.pc).cc = s.pushRegisters .s 0x81#8 := by
  simp [State.pushRegisters, State.push16If, State.push8If]

theorem State.entireFrame_eq (s : State) : s.entireFrame s.cc = (s.stackFrame .s 0xFF#8 8).reverse := rfl

theorem State.pushFrame_eq (s : State) (ev : Event) :
    s.pushFrame ev = (s.markFrame ev).pushRegisters .s ev.postbyte := by
  cases h : ev.entire with
  | true => simp [State.pushFrame, State.markFrame, Event.postbyte, h, State.pushEntire_eq]
  | false => simp [State.pushFrame, State.markFrame, Event.postbyte, h, ← State.pushShort_eq]

theorem State.frameBytes_eq (s : State) (ev : Event) :
    s.frameBytes ev = ((s.markFrame ev).stackFrame .s ev.postbyte 8).reverse := by
  cases ev <;> rfl

theorem State.markFrame_changes (s : State) (ev : Event) : changesOnly [.flag .e] s (s.markFrame ev) :=
  s.setFlag_changes .e ev.entire

theorem State.pushFrame_changes (s : State) (ev : Event) :
    changesOnly [.s, .flag .e, .mem, .devices] s (s.pushFrame ev) :=
  s.pushFrame_eq ev ▸ (s.markFrame_changes ev).then (State.pushRegisters_changes _ .s ev.postbyte) (by decide)

theorem State.pushFrame_s (s : State) (ev : Event) :
    (s.pushFrame ev).s = s.s - BitVec.ofNat 16 (s.frameBytes ev).length := by
  rw [s.frameBytes_eq, List.length_reverse, State.stackFrame_length, s.pushFrame_eq, State.pushRegisters_s]
  rfl

theorem State.pushFrame_stores (s : State) (ev : Event) (hwf : s.mem.wf = true) :
    storesBytes s (s.pushFrame ev) (pushedBytes s.s (s.frameBytes ev)) := by
  rw [s.frameBytes_eq, s.pushFrame_eq]
  exact ((s.markFrame ev).pushRegisters_stores .s ev.postbyte hwf).congr ⟨rfl, rfl, rfl⟩ ⟨rfl, rfl⟩

@[simp] theorem State.pushRegisters_cc (s : State) (p : StackPtr) (pb : Byte) : (s.pushRegisters p pb).cc = s.cc :=
  (s.pushRegisters_changes p pb).getReg8 (r := .cc) (by cases p <;> decide)

@[simp] theorem State.pushFrame_cc (s : State) (ev : Event) : (s.pushFrame ev).cc = ccPut s.cc .e ev.entire := by
  rw [s.pushFrame_eq, State.pushRegisters_cc]
  rfl

/-! ## The vector -/

/-- The masks an entry sets. -/
def Event.masks (ev : Event) : List Flag := pick ev.masksI [.i] ++ pick ev.masksF [.f]

theorem ccGet_maskCC (ev : Event) (cc : Byte) (fl : Flag) :
    ccGet (ev.maskCC cc) fl = (ev.masks.contains fl || ccGet cc fl) := by
  unfold Event.maskCC Event.masks
  cases ev.masksI <;> cases ev.masksF <;> grind [ccGet_ccPut, pick_true, pick_false]

@[simp] theorem State.enterVector_cc (s : State) (ev : Event) : (s.enterVector ev).cc = ev.maskCC s.cc :=
  State.readWord_cc _ _

@[simp] theorem State.enterVector_mem (s : State) (ev : Event) : (s.enterVector ev).mem = s.mem :=
  State.readWord_mem _ _

@[simp] theorem State.enterVector_memMap (s : State) (ev : Event) : (s.enterVector ev).memMap = s.memMap :=
  State.readWord_memMap _ _

theorem State.enterVector_changes (s : State) (ev : Event) :
    changesOnly ([.pc, .devices, .draws] ++ ev.masks.map Part.flag) s (s.enterVector ev) := by
  have hmask : changesOnly (ev.masks.map Part.flag) s (s.setCC (ev.maskCC s.cc)) :=
    s.setCC_changes _ _ fun fl hfl => by simp_all [ccGet_maskCC]
  exact hmask.then ((State.readWord_changes _ ev.vector).trans (State.setPC_changes _ _)) (by grind)

@[simp] theorem State.enterVector_s (s : State) (ev : Event) : (s.enterVector ev).s = s.s :=
  (s.enterVector_changes ev).2 .s (by simp)

theorem State.readWord_eq (s : State) (a : Word) :
    s.readWord a = (wordOf (s.readBytes a 2).1 0, (s.readBytes a 2).2) := rfl

theorem SameBus.refl (s : State) : SameBus s s := ⟨rfl, fun _ => rfl, rfl, rfl⟩

/-- States that agree on the bus read the same word. -/
theorem SameBus.readWord {s t : State} (h : SameBus s t) (a : Word) :
    (t.readWord a).1 = (s.readWord a).1 ∧ SameBus (s.readWord a).2 (t.readWord a).2 := by
  obtain ⟨hbytes, hbus⟩ := h.readBytes a 2
  rw [s.readWord_eq, t.readWord_eq, hbytes]
  exact ⟨rfl, hbus⟩

/-- The masks do not matter to the bus, so the vector is what a read before them gives. -/
theorem SameBus.vectored_enterVector {s t : State} (h : SameBus s t) (ev : Event) :
    vectored s (t.enterVector ev) ev.vector := by
  have hmasked : SameBus s (t.setCC (ev.maskCC t.cc)) := h.trans ⟨rfl, fun _ => rfl, rfl, rfl⟩
  obtain ⟨hword, hbus⟩ := hmasked.readWord ev.vector
  exact ⟨hword, hbus.log, hbus.draws, fun a => (hbus.content a).trans ((s.readWord_changes _).2 .mem (by simp) a)⟩

/-! ## The whole entry -/

/-- An entry through its vector from a state that is on the bus and at S as the frame left it. -/
theorem State.enterVector_entersThrough {s t : State} {ev : Event} (hwf : s.mem.wf = true)
    (hbus : SameBus (s.pushFrame ev) t) (hs : t.s = (s.pushFrame ev).s) :
    entersThrough s (t.enterVector ev) (s.frameBytes ev) ev.vector :=
  ⟨(t.enterVector_s ev).trans (hs.trans (s.pushFrame_s ev)), _, s.pushFrame_stores ev hwf, s.pushFrame_changes ev,
    hbus.vectored_enterVector ev⟩

theorem State.takeException_flag (s : State) (ev : Event) (fl : Flag) :
    ccGet (s.takeException ev).cc fl = (ev.masks.contains fl || if fl = .e then ev.entire else ccGet s.cc fl) := by
  rw [State.takeException, State.enterVector_cc, ccGet_maskCC, State.pushFrame_cc, ccGet_ccPut]

/-- An entry that pushes the entire state sets E, and every entry its masks. -/
theorem State.takeException_setsFlags (s : State) {ev : Event} (hentire : ev.entire = true) :
    setsFlags (.e :: ev.masks) s (s.takeException ev) := by
  intro fl
  rw [s.takeException_flag, hentire]
  cases fl <;> simp

theorem State.takeException_changes (s : State) (ev : Event) :
    changesOnly [.pc, .s, .flag .e, .flag .i, .flag .f, .mem, .devices, .draws] s (s.takeException ev) :=
  (s.pushFrame_changes ev).then (State.enterVector_changes _ ev) (by cases ev <;> decide)

/-! ## The return -/

/-- RTI pulls the entire frame or the short one by the E of the CC it pulls (49_interrupt_instructions.md R303). -/
theorem State.returnFromException_eq (s : State) :
    s.returnFromException = s.pullRegisters .s (if (s.readByte s.s).1.getLsbD 7 then 0xFF#8 else 0x81#8) := by
  have hpulled : (s.pull8 .s).1 = (s.readByte s.s).1 := rfl
  cases h : (s.readByte s.s).1.getLsbD 7 with
  | true =>
    have hentire : ccGet (s.readByte s.s).1 .e = true := h
    simp [State.returnFromException, State.pullEntireRegisters, State.pullRegisters, State.pull16If, State.pull8If,
      State.setOtherSP, hpulled, hentire]
  | false =>
    have hshort : ccGet (s.readByte s.s).1 .e = false := h
    simp [State.returnFromException, State.pullRegisters, State.pull16If, State.pull8If, hpulled, hshort]

/-- After an entry on RAM its frame lies at S. -/
theorem State.takeException_holdsBytes {s : State} (ev : Event) (hwf : s.mem.wf = true)
    (hram : s.ramAt (s.s - 12#16) 12) :
    (s.takeException ev).holdsBytes (s.takeException ev).s ((s.markFrame ev).stackFrame .s ev.postbyte 8) := by
  have hheld := State.pushRegisters_s_holdsBytes (s := s.markFrame ev) (pb := ev.postbyte) hwf
    (State.ramAt_below_of_le (m := 12) hram (pullOffset_eight_le _))
  rw [← State.pushFrame_eq] at hheld
  rw [State.takeException, State.enterVector_s]
  exact (State.holdsBytes_congr (State.enterVector_mem _ ev) (State.enterVector_memMap _ ev) _ _).2 hheld

/-- The E that RTI finds after an entry on RAM is the one the entry stacked, so it pulls that entry's frame. -/
theorem State.return_after_takeException {s : State} (ev : Event) (hwf : s.mem.wf = true)
    (hram : s.ramAt (s.s - 12#16) 12) :
    (s.takeException ev).returnFromException = (s.takeException ev).pullRegisters .s ev.postbyte := by
  have hlowest : ∃ rest, (s.markFrame ev).stackFrame .s ev.postbyte 8 = ccPut s.cc .e ev.entire :: rest := by
    cases ev <;> exact ⟨_, rfl⟩
  obtain ⟨rest, hrest⟩ := hlowest
  have hheld := State.takeException_holdsBytes ev hwf hram
  rw [hrest] at hheld
  obtain ⟨hkind, hcc, -⟩ := hheld
  have hstacked : (ccPut s.cc .e ev.entire).getLsbD 7 = ev.entire :=
    (ccGet_ccPut s.cc .e .e ev.entire).trans (if_pos rfl)
  rw [State.returnFromException_eq, State.readByte_of_content _ _ hkind, hcc, hstacked, Event.postbyte]

/-- RTI after an entry on RAM gives back everything but E, memory, and what the read of the vector left. -/
theorem State.return_after_takeException_changes {s : State} (ev : Event) (hwf : s.mem.wf = true)
    (hram : s.ramAt (s.s - 12#16) 12) :
    changesOnly [.flag .e, .mem, .devices, .draws] s (s.takeException ev).returnFromException := by
  have hentry : changesOnly ([.s, .mem, .devices] ++ ([.pc, .devices, .draws] ++ ev.masks.map Part.flag))
      (s.markFrame ev) (s.takeException ev) := by
    rw [State.takeException, State.pushFrame_eq]
    exact (State.pushRegisters_changes _ _ _).trans (State.enterVector_changes _ ev)
  have hpointer : (s.takeException ev).s = (s.markFrame ev).s - BitVec.ofNat 16 (pullOffset ev.postbyte 8) := by
    rw [State.takeException, State.enterVector_s, State.pushFrame_eq, State.pushRegisters_s]
  rw [State.return_after_takeException ev hwf hram]
  refine (s.markFrame_changes ev).trans (qs := [.mem, .devices, .draws]) ?_
  exact State.pullRegisters_restores hentry hpointer (State.takeException_holdsBytes ev hwf hram)
    (by cases ev <;> decide)

end Sys2Proof.Machine
end

section
/-! SUPPORT. The interrupt instructions (49_interrupt_instructions.md): SWI, SWI2, SWI3, RTI, CWAI and SYNC. -/

namespace Sys2Proof

open Machine Claims

theorem exec_swi (s : State) : exec .swi s = .next (s.takeException .swi) := rfl

theorem exec_swi2 (s : State) : exec .swi2 s = .next (s.takeException .swi2) := rfl

theorem exec_swi3 (s : State) : exec .swi3 s = .next (s.takeException .swi3) := rfl

theorem exec_rti (s : State) : exec .rti s = .next s.returnFromException := rfl

theorem exec_sync (s : State) : exec .sync s = .next (s.setWait .syncWait) := rfl

theorem exec_cwai (m : Byte) (s : State) :
    exec (.cwai m) s = .next ((s.setCC (ccPut (s.cc &&& m) .e true)).pushEntire.setWait .cwaiWait) := rfl

/-- An instruction that takes an exception with the entire frame is a software interrupt. -/
theorem softwareInterrupt_of_exec {i : Instr} {ev : Event} (hexec : ∀ s, exec i s = .next (s.takeException ev))
    (hentire : ev.entire = true) : softwareInterrupt i (.e :: ev.masks) ev.vector := by
  intro s hwf
  have henters : entersThrough s (s.takeException ev) (s.frameBytes ev) ev.vector :=
    State.enterVector_entersThrough hwf (SameBus.refl _) rfl
  rw [State.frameBytes, if_pos hentire] at henters
  have hkept := (s.takeException_changes ev).2
  exact ⟨_, hexec s, henters, s.takeException_setsFlags hentire, hkept .nmiPending (by decide),
    hkept .waitState (by decide), hkept .irqEnv (by decide), (s.takeException_changes ev).mono (by decide)⟩

/-- Settles O52: each is the entry of its event. -/
theorem softwareInterrupts : Obligations.SoftwareInterrupts :=
  ⟨⟨decodesTo_encode .swi rfl, softwareInterrupt_of_exec (ev := .swi) exec_swi rfl⟩,
    ⟨decodesTo_encode .swi2 rfl, softwareInterrupt_of_exec (ev := .swi2) exec_swi2 rfl⟩,
    ⟨decodesTo_encode .swi3 rfl, softwareInterrupt_of_exec (ev := .swi3) exec_swi3 rfl⟩⟩

/-- RTI is the PULS of the frame that the stacked E names. -/
theorem exec_rti_of_stackedE {s : State} {e : Bool} (h : (s.readByte s.s).1.getLsbD 7 = e) :
    exec .rti s = exec (.puls (if e then 0xFF#8 else 0x81#8)) s := by
  rw [exec_rti, s.returnFromException_eq, h, exec_puls]

/-- Settles O53: PULS with the postbyte of the frame that the stacked E names gives each register its bytes (O29). -/
theorem rtiPullsByTheStackedE : Obligations.RtiPullsByTheStackedE := by
  obtain ⟨-, hpuls, -⟩ := pullsLoadTheSelectedRegisters
  refine ⟨decodesTo_encode .rti rfl, fun s h => ?entire, fun s h => ?short⟩
  case entire =>
    obtain ⟨t, hexec, hloaded, hs, -, hlog, hdraws, hframe⟩ := hpuls 0xFF#8 s
    exact ⟨t, (exec_rti_of_stackedE h).trans hexec, by simpa [pullOffset, State.getSP] using hloaded, hs,
      by simpa [pullOffset, State.getSP] using hlog,
      by simpa [pullOffset, State.getSP] using hdraws, hframe.mono (by decide)⟩
  case short =>
    obtain ⟨t, hexec, hloaded, hs, -, hlog, hdraws, hframe⟩ := hpuls 0x81#8 s
    exact ⟨t, (exec_rti_of_stackedE h).trans hexec, by simpa [pullOffset, State.getSP] using hloaded, hs,
      by simpa [pullOffset, State.getSP] using hlog,
      by simpa [pullOffset, State.getSP] using hdraws, hframe.mono (by decide)⟩

/-- Settles O55: CWAI pushes the entire state with the CC it has written, then waits. -/
theorem cwaiAndSyncWait : Obligations.CwaiAndSyncWait := by
  refine ⟨fun m => decodesTo_encode (.cwai m) rfl, decodesTo_encode .sync rfl, fun m s hwf => ?cwai,
    fun s => ⟨_, exec_sync s, rfl, s.setWait_changes .syncWait⟩⟩
  case cwai =>
    have hstored := (s.setCC (ccPut (s.cc &&& m) .e true)).pushRegisters_stores .s 0xFF#8 hwf
    have hframe := (s.setCC_changes_flags (ccPut (s.cc &&& m) .e true)).trans
      ((State.pushRegisters_changes _ .s 0xFF#8).trans (State.setWait_changes _ .cwaiWait))
    rw [← State.entireFrame_eq] at hstored
    rw [exec_cwai, State.pushEntire_eq]
    exact ⟨_, rfl, rfl, by simp, by simp [State.pushRegisters_s, pullOffset], hstored.congr ⟨rfl, rfl, rfl⟩ (by simp),
      hframe.mono (by decide)⟩

end Sys2Proof
end

section
/-! SUPPORT. What a step does at its boundary (60_exceptions.md R333, R334): which interrupt it takes, and the state in which
that interrupt is entered. -/

namespace Sys2Proof.Machine

open Claims

/-! ## The interrupt taken -/

theorem State.latched_nmiPending (s : State) : s.latched.nmiPending = true ↔ nmiLatched s := by
  unfold State.latched State.latchNmi nmiLatched
  split <;> simp_all

/-- Where nothing is latched the step has only used up its inputs. -/
theorem State.latched_of_not_nmiLatched {s : State} (h : ¬nmiLatched s) : s.latched = s.tickInputs := by
  unfold State.latched State.latchNmi
  exact if_neg fun hfell => h (.inr (Bool.and_eq_true_iff.1 hfell))

theorem pendingInterrupt_eq_nmi {s : State} (h : nmiLatched s) :
    s.latched.pendingInterrupt s.inputs = some .nmi :=
  if_pos (s.latched_nmiPending.2 h)

section
variable {s : State} (hnmi : ¬nmiLatched s)
include hnmi

theorem pendingInterrupt_of_not_nmiLatched :
    s.latched.pendingInterrupt s.inputs =
      if s.inputs.firqLow && !ccGet s.cc .f then some .firq
      else if s.inputs.irqLow && !ccGet s.cc .i then some .irq
      else none := by
  have hclear : s.tickInputs.nmiPending ≠ true := fun h => hnmi (.inl h)
  rw [State.latched_of_not_nmiLatched hnmi]
  exact if_neg hclear

theorem pendingInterrupt_eq_firq (h : firqPresent s) : s.latched.pendingInterrupt s.inputs = some .firq := by
  rw [pendingInterrupt_of_not_nmiLatched hnmi]
  obtain ⟨hlow, hmask⟩ := h
  simp [hlow, hmask]

theorem pendingInterrupt_eq_irq (hfirq : ¬firqPresent s) (h : irqPresent s) :
    s.latched.pendingInterrupt s.inputs = some .irq := by
  rw [pendingInterrupt_of_not_nmiLatched hnmi]
  unfold firqPresent at hfirq
  obtain ⟨hlow, hmask⟩ := h
  rw [if_neg (by simpa using hfirq)]
  simp [hlow, hmask]

theorem pendingInterrupt_eq_none (hfirq : ¬firqPresent s) (hirq : ¬irqPresent s) :
    s.latched.pendingInterrupt s.inputs = none := by
  unfold firqPresent at hfirq
  unfold irqPresent at hirq
  rw [pendingInterrupt_of_not_nmiLatched hnmi, if_neg (by simpa using hfirq), if_neg (by simpa using hirq)]

end

/-- One of the three lines, latched or present, is what an interrupt comes from. -/
theorem exists_pendingInterrupt {s : State} (h : nmiLatched s ∨ firqPresent s ∨ irqPresent s) :
    ∃ ev, s.latched.pendingInterrupt s.inputs = some ev := by
  by_cases hnmi : nmiLatched s
  · exact ⟨_, pendingInterrupt_eq_nmi hnmi⟩
  by_cases hfirq : firqPresent s
  · exact ⟨_, pendingInterrupt_eq_firq hnmi hfirq⟩
  · exact ⟨_, pendingInterrupt_eq_irq hnmi hfirq (by tauto)⟩

/-! ## The state of the entry -/

/-- The state in which a step enters its interrupt: the machine runs, nothing is latched any more, and the inputs are used
up. -/
def State.atEntry (s : State) : State :=
  { s with nmiPending := false, waitState := .running, irqEnv := s.irqEnv.tail }

theorem State.atEntry_changes (s : State) : changesOnly [.nmiPending, .waitState, .irqEnv] s s.atEntry :=
  ⟨⟨rfl, rfl, rfl⟩, fun q hq => by
    cases q with
    | nmiPending | waitState | irqEnv => simp at hq
    | mem => exact fun _ => rfl
    | _ => rfl⟩

theorem State.atEntry_changes_of_not_nmiLatched {s : State} (h : ¬nmiLatched s) :
    changesOnly [.waitState, .irqEnv] s s.atEntry :=
  s.atEntry_changes.of_same (Bool.eq_false_of_not_eq_true fun hp => h (.inl hp)).symm

/-- Taking the interrupt clears the latch, which only NMI finds set. -/
theorem State.acknowledge_of_pendingInterrupt {s : State} {inp : Inputs} {ev : Event}
    (h : s.pendingInterrupt inp = some ev) : s.acknowledge ev = { s with nmiPending := false } := by
  unfold State.pendingInterrupt at h
  split at h
  next hlatched => cases h; rfl
  next hclear =>
    have hne : ev ≠ .nmi := by rintro rfl; grind
    have hsame : s = { s with nmiPending := false } := by
      rw [← Bool.eq_false_of_not_eq_true hclear]
    rw [State.acknowledge, if_neg hne]
    exact hsame

theorem State.acknowledge_latched {s : State} {ev : Event} (h : s.latched.pendingInterrupt s.inputs = some ev) :
    (s.latched.acknowledge ev).setWait .running = s.atEntry := by
  rw [State.acknowledge_of_pendingInterrupt h]
  unfold State.latched State.latchNmi
  split <;> rfl

theorem State.readByte_setWait (s : State) (a : Word) (w : WaitState) :
    (s.setWait w).readByte a = ((s.readByte a).1, (s.readByte a).2.setWait w) := by
  unfold State.readByte
  rw [State.setWait_kindAt]
  split <;> rfl

theorem State.enterVector_setWait (s : State) (ev : Event) (w : WaitState) :
    (s.setWait w).enterVector ev = (s.enterVector ev).setWait w := by
  have hmasked : (s.setWait w).setCC (ev.maskCC (s.setWait w).cc) = (s.setCC (ev.maskCC s.cc)).setWait w := rfl
  simp only [State.enterVector, State.readWord, hmasked, State.readByte_setWait]
  rfl

/-- One of the three lines is low or latched where an interrupt is taken, so SYNC ends. -/
theorem lines_of_pendingInterrupt {s : State} {inp : Inputs} {ev : Event} (h : s.pendingInterrupt inp = some ev) :
    (s.nmiPending || inp.firqLow || inp.irqLow) = true := by
  unfold State.pendingInterrupt at h
  grind

/-! ## The step -/

section
variable {s : State} {ev : Event} (hreset : s.inputs.resetLow = false)
include hreset

theorem step_of_running (hwait : s.waitState = .running) : step s = s.latched.runningStep s.inputs := by
  simp [step, State.stepWith, State.latched, hreset, hwait]

theorem step_of_syncWait (hwait : s.waitState = .syncWait) : step s = s.latched.syncStep s.inputs := by
  simp [step, State.stepWith, State.latched, hreset, hwait]

theorem step_of_cwaiWait (hwait : s.waitState = .cwaiWait) : step s = s.latched.cwaiStep s.inputs := by
  simp [step, State.stepWith, State.latched, hreset, hwait]

/-- SYNC that ends goes on as the running machine (60_exceptions.md R334). -/
theorem step_of_syncWait_ended (hwait : s.waitState = .syncWait)
    (hlines : (s.latched.nmiPending || s.inputs.firqLow || s.inputs.irqLow) = true) :
    step s = (s.latched.setWait .running).runningStep s.inputs := by
  rw [step_of_syncWait hreset hwait, State.syncStep, if_pos hlines]

/-- Out of the running state and out of SYNC an interrupt is taken whole (60_exceptions.md R329, R330, R332). -/
theorem step_of_interrupt (hwait : s.waitState ≠ .cwaiWait) (hev : s.latched.pendingInterrupt s.inputs = some ev) :
    step s = .next (s.atEntry.takeException ev) := by
  have hrun : step s = (s.latched.setWait .running).runningStep s.inputs := by
    cases hw : s.waitState with
    | running => rw [step_of_running hreset hw, State.setWait_of_eq (s.latched_waitState.trans hw)]
    | syncWait => exact step_of_syncWait_ended hreset hw (lines_of_pendingInterrupt hev)
    | cwaiWait => exact absurd hw hwait
  have hpending : (s.latched.setWait .running).pendingInterrupt s.inputs = some ev := hev
  have hrunning : (s.atEntry.takeException ev).waitState = .running :=
    (s.atEntry.takeException_changes ev).2 .waitState (by decide)
  rw [hrun, State.runningStep, hpending]
  simp only [State.takeInterrupt, State.acknowledge_setWait, State.acknowledge_latched hev, State.setWait_of_eq hrunning]

/-- Out of CWAI an interrupt enters through its vector and pushes nothing (60_exceptions.md R334). -/
theorem step_of_interrupt_in_cwaiWait (hwait : s.waitState = .cwaiWait)
    (hev : s.latched.pendingInterrupt s.inputs = some ev) : step s = .next (s.atEntry.enterVector ev) := by
  rw [step_of_cwaiWait hreset hwait, State.cwaiStep, hev]
  simp only [State.releaseCwai, ← State.enterVector_setWait, State.acknowledge_latched hev]

end

/-! ## The push and the boundary -/

/-- A push does not see what the boundary has changed. -/
theorem State.push8_atEntry (s : State) (p : StackPtr) (v : Byte) : s.atEntry.push8 p v = (s.push8 p v).atEntry := by
  have hkind : (s.atEntry.setSP p (s.getSP p - 1#16)).kindAt (s.getSP p - 1#16) = s.kindAt (s.getSP p - 1#16) :=
    State.setSP_kindAt _ p _ _
  have hsp : s.atEntry.getSP p = s.getSP p := by cases p <;> rfl
  rw [State.push8, State.push8, hsp]
  unfold State.writeByte
  rw [hkind, State.setSP_kindAt]
  cases p <;> split <;> rfl

theorem State.pushBytes_atEntry (s : State) (p : StackPtr) (l : List Byte) :
    s.atEntry.pushBytes p l = (s.pushBytes p l).atEntry := by
  induction l generalizing s with
  | nil => rfl
  | cons v vs ih => rw [State.pushBytes, State.push8_atEntry, ih, State.pushBytes]

theorem State.pushFrame_atEntry (s : State) (ev : Event) : s.atEntry.pushFrame ev = (s.pushFrame ev).atEntry := by
  have hmark : s.atEntry.markFrame ev = (s.markFrame ev).atEntry := rfl
  have hframe : (s.markFrame ev).atEntry.stackFrame .s ev.postbyte 8 = (s.markFrame ev).stackFrame .s ev.postbyte 8 :=
    rfl
  rw [State.pushFrame_eq, State.pushFrame_eq, hmark, State.pushRegisters_eq, State.pushRegisters_eq, hframe,
    State.pushBytes_atEntry]

/-- The entry of an interrupt, seen from before the boundary. -/
theorem State.takeException_atEntry_entersThrough (s : State) (ev : Event) (hwf : s.mem.wf = true) :
    entersThrough s (s.atEntry.takeException ev) (s.frameBytes ev) ev.vector := by
  rw [State.takeException, s.pushFrame_atEntry]
  exact State.enterVector_entersThrough hwf ⟨rfl, fun _ => rfl, rfl, rfl⟩ rfl

end Sys2Proof.Machine
end

section
/-! SUPPORT. Interrupts, wait states and reset (60_exceptions.md, 70_reset_and_hazards.md R361). -/

namespace Sys2Proof.Machine

open Claims

/-- What every interrupt entry leaves of the boundary, and its frame. -/
theorem State.takeException_atEntry_changes (s : State) (ev : Event) :
    (s.atEntry.takeException ev).nmiPending = false ∧ (s.atEntry.takeException ev).waitState = .running ∧
      (s.atEntry.takeException ev).irqEnv = s.irqEnv.tail ∧ changesOnly entryParts s (s.atEntry.takeException ev) := by
  have hentry := s.atEntry.takeException_changes ev
  exact ⟨hentry.2 .nmiPending (by decide), hentry.2 .waitState (by decide), hentry.2 .irqEnv (by decide),
    s.atEntry_changes.then hentry (by decide)⟩

theorem State.enterVector_setsFlags (s : State) (ev : Event) : setsFlags ev.masks s (s.enterVector ev) := by
  intro fl
  rw [State.enterVector_cc, ccGet_maskCC]

theorem State.setWait_latchNmi (s : State) (w : WaitState) (inp : Inputs) :
    (s.setWait w).latchNmi inp = (s.latchNmi inp).setWait w := by
  unfold State.latchNmi
  rw [State.setWait_nmiArmed]
  split <;> rfl

theorem State.setWait_latched (s : State) (w : WaitState) : (s.setWait w).latched = s.latched.setWait w :=
  s.tickInputs.setWait_latchNmi w s.inputs

theorem State.atEntry_sameBus (s : State) : SameBus s s.atEntry := ⟨rfl, fun _ => rfl, rfl, rfl⟩

/-- What an interrupt that ends CWAI leaves: PC from the vector, its masks set, nothing latched, the machine running. -/
theorem State.enterVector_atEntry (s : State) (ev : Event) :
    vectored s (s.atEntry.enterVector ev) ev.vector ∧ setsFlags ev.masks s (s.atEntry.enterVector ev) ∧
      (s.atEntry.enterVector ev).nmiPending = false ∧ (s.atEntry.enterVector ev).waitState = .running := by
  have hvector := s.atEntry.enterVector_changes ev
  exact ⟨s.atEntry_sameBus.vectored_enterVector ev, s.atEntry.enterVector_setsFlags ev,
    hvector.2 .nmiPending (by simp), hvector.2 .waitState (by simp)⟩

/-! ## Reset -/

theorem step_of_reset {s : State} (h : s.inputs.resetLow = true) : step s = .next s.tickInputs.takeReset := by
  simp [step, State.stepWith, h]

theorem State.resetRegisters_changes (s : State) :
    changesOnly ([.a, .b, .x, .y, .u, .s, .dp, .nmiArmed, .nmiPending, .waitState, .draws] ++ allFlags) s
      s.resetRegisters :=
  ⟨⟨rfl, rfl, rfl⟩, fun q hq => by
    cases q with
    | pc | irqEnv | devices => rfl
    | mem => exact fun _ => rfl
    | flag fl => cases fl <;> simp [allFlags] at hq
    | _ => simp at hq⟩

theorem State.takeReset_eq (s : State) :
    s.takeReset = (s.resetRegisters.readWord 0xFFFE#16).2.setPC (s.resetRegisters.readWord 0xFFFE#16).1 := rfl

theorem State.takeReset_vectored (s : State) : vectored s.resetRegisters s.takeReset 0xFFFE#16 :=
  ⟨rfl, rfl, rfl, fun a => (s.resetRegisters.readWord_changes 0xFFFE#16).2 .mem (by simp) a⟩

theorem State.takeReset_changes (s : State) : changesOnly [.pc, .devices, .draws] s.resetRegisters s.takeReset :=
  (s.resetRegisters.readWord_changes 0xFFFE#16).then (State.setPC_changes _ _) (by simp)

/-- A word of RAM or ROM is read without any effect (20_memory.md R55). -/
theorem State.readWord_of_holdsBytes {s : State} {a : Word} {h l : Byte} (hold : s.holdsBytes a [h, l]) :
    s.readWord a = (joinBytes h l, s) := by
  have hread := State.readBytes_of_holdsBytes [h, l] hold
  rw [State.readWord_eq]
  exact hread ▸ rfl

end Sys2Proof.Machine

namespace Sys2Proof

open Machine Claims

/-- Settles O54: each entry on RAM is undone by RTI up to E; the boundary of the step has touched the latch and the inputs
besides. -/
theorem interruptThenRtiRestoresTheProgram : Obligations.InterruptThenRtiRestoresTheProgram := by
  intro s hwf hram
  refine ⟨?software, fun hreset hrunning hpresent => ?hardware⟩
  case software =>
    rintro i (rfl | rfl | rfl)
    · exact ⟨_, _, exec_swi s, exec_rti _, State.return_after_takeException_changes .swi hwf hram⟩
    · exact ⟨_, _, exec_swi2 s, exec_rti _, State.return_after_takeException_changes .swi2 hwf hram⟩
    · exact ⟨_, _, exec_swi3 s, exec_rti _, State.return_after_takeException_changes .swi3 hwf hram⟩
  case hardware =>
    obtain ⟨ev, hev⟩ := exists_pendingInterrupt hpresent
    have hwait : s.waitState ≠ .cwaiWait := by simp [hrunning]
    have hboundary : changesOnly [.nmiPending, .irqEnv] s s.atEntry :=
      (s.atEntry_changes.mono (by decide)).of_same (p := .waitState) hrunning.symm
    have hreturned := State.return_after_takeException_changes ev (s := s.atEntry) hwf
      (s.atEntry_changes.ramAt.2 hram)
    exact ⟨_, _, step_of_interrupt hreset hwait hev, exec_rti _, hboundary.then hreturned (by decide)⟩

/-- Settles O56: whichever interrupt the boundary finds is entered from the same state, by its own frame, masks and
vector. -/
theorem hardwareInterruptEntries : Obligations.HardwareInterruptEntries := by
  intro s hwf hreset hwait
  have henters (ev : Event) := s.takeException_atEntry_entersThrough ev hwf
  refine ⟨fun hnmi => ?nmi, fun hnmi hfirq => ?firq, fun hnmi hfirq hirq => ?irq⟩
  case nmi =>
    exact ⟨_, step_of_interrupt hreset hwait (pendingInterrupt_eq_nmi hnmi), henters .nmi,
      s.atEntry.takeException_setsFlags (ev := .nmi) rfl, s.takeException_atEntry_changes .nmi⟩
  case firq =>
    have hflag := s.atEntry.takeException_flag .firq
    exact ⟨_, step_of_interrupt hreset hwait (pendingInterrupt_eq_firq hnmi hfirq), henters .firq,
      hflag .e, hflag .i, hflag .f, s.takeException_atEntry_changes .firq⟩
  case irq =>
    exact ⟨_, step_of_interrupt hreset hwait (pendingInterrupt_eq_irq hnmi hfirq hirq), henters .irq,
      s.atEntry.takeException_setsFlags (ev := .irq) rfl, s.takeException_atEntry_changes .irq⟩

/-- Settles O57: SYNC that ends and the running machine do the same step; CWAI enters through the vector without a push. -/
theorem waitStatesEndAsTheyShould : Obligations.WaitStatesEndAsTheyShould := by
  refine ⟨fun s hreset hwait => ⟨fun hnmi hfirq hirq => ?stays, fun hlines => ?ends⟩,
    fun s hreset hwait => ⟨fun hnmi hfirq hirq => ?waits, fun hnmi => ?nmi, fun hnmi hfirq => ?firq,
      fun hnmi hfirq hirq => ?irq⟩⟩
  case stays =>
    have hclear : s.tickInputs.nmiPending = false := Bool.eq_false_of_not_eq_true fun h => hnmi (.inl h)
    rw [step_of_syncWait hreset hwait, State.latched_of_not_nmiLatched hnmi, State.syncStep, hclear, hfirq, hirq]
    rfl
  case ends =>
    rw [← s.latched_nmiPending] at hlines
    rw [step_of_syncWait_ended hreset hwait (by simpa [or_assoc] using hlines),
      step_of_running (s := s.setWait .running) hreset rfl, State.setWait_latched]
    rfl
  case waits =>
    rw [step_of_cwaiWait hreset hwait, State.cwaiStep, pendingInterrupt_eq_none hnmi hfirq hirq,
      State.latched_of_not_nmiLatched hnmi]
  case nmi =>
    obtain ⟨hvectored, hflags, hclear, hrunning⟩ := s.enterVector_atEntry .nmi
    exact ⟨_, step_of_interrupt_in_cwaiWait hreset hwait (pendingInterrupt_eq_nmi hnmi), hvectored, hflags, hclear,
      hrunning, s.atEntry_changes.then (State.enterVector_changes _ .nmi) (by decide)⟩
  case firq =>
    obtain ⟨hvectored, hflags, -, hrunning⟩ := s.enterVector_atEntry .firq
    exact ⟨_, step_of_interrupt_in_cwaiWait hreset hwait (pendingInterrupt_eq_firq hnmi hfirq), hvectored, hflags,
      hrunning, (State.atEntry_changes_of_not_nmiLatched hnmi).then (State.enterVector_changes _ .firq) (by decide)⟩
  case irq =>
    obtain ⟨hvectored, hflags, -, hrunning⟩ := s.enterVector_atEntry .irq
    exact ⟨_, step_of_interrupt_in_cwaiWait hreset hwait (pendingInterrupt_eq_irq hnmi hfirq hirq), hvectored, hflags,
      hrunning, (State.atEntry_changes_of_not_nmiLatched hnmi).then (State.enterVector_changes _ .irq) (by decide)⟩

/-- Settles O58: the registers are set first, then PC is read from $FFFE. -/
theorem resetStep : Obligations.ResetStep := by
  intro s hreset
  have hread := s.tickInputs.takeReset_changes
  have hregs := s.tickInputs_changes.trans s.tickInputs.resetRegisters_changes
  obtain ⟨harmed, hpending⟩ := s.tickInputs.takeReset_nmi
  refine ⟨_, step_of_reset hreset, hread.2 .dp (by decide), ?flagI, ?flagF, harmed, hpending,
    hread.2 .waitState (by decide), hread.2 .irqEnv (by decide), State.readWord_mem _ _,
    ⟨_, s.tickInputs.takeReset_vectored, hregs.mono (by decide)⟩, fun hold => ?content,
    hregs.then hread (by decide)⟩
  case flagI => exact (hread.2 (.flag .i) (by decide)).trans (by simp [State.resetRegisters])
  case flagF => exact (hread.2 (.flag .f) (by decide)).trans (by simp [State.resetRegisters])
  case content =>
    have hword := State.readWord_of_holdsBytes
      ((State.holdsBytes_congr (t := s.tickInputs.resetRegisters) rfl rfl _ _).2 hold)
    rw [State.takeReset_eq, hword]
    exact ⟨rfl, rfl⟩

end Sys2Proof
end

section
/-! SUPPORT. Which instructions arm NMI (60_exceptions.md R331): instruction by instruction, none but a load of S does. -/

namespace Sys2Proof.Machine

open Claims

/-- The instructions other than LDS that load S; PULU does where its postbyte names S. -/
def loadsS : Instr → Bool
  | .leas _ => true
  | .tfr _ r => r == .r16 .s
  | .exg r1 r2 => r1 == .r16 .s || r2 == .r16 .s
  | .pulu pb => pb.getLsbD 6
  | _ => false

theorem loadsS_iff {i : Instr} : loadsS i = true ↔
    (∃ ix, i = .leas ix) ∨ (∃ r, i = .tfr r (.r16 .s)) ∨ (∃ r, i = .exg r (.r16 .s)) ∨ (∃ r, i = .exg (.r16 .s) r) ∨
      ∃ pb, i = .pulu pb ∧ pb.getLsbD 6 = true := by
  cases i with
  | exg r1 r2 => simp [loadsS, or_comm]
  | _ => simp [loadsS]

/-- The outcome is a next state in which NMI is armed as before, or as a load of S arms it. -/
def OutcomeArms (b : Bool) (s : State) (r : Result) : Prop := ∀ t, r = .next t → armsIf b s t

theorem OutcomeArms.next {b : Bool} {s t : State} (h : armsIf b s t) : OutcomeArms b s (.next t) := by
  rintro u ⟨⟩
  exact h

/-- An outcome whose arming is that of the state before arms nothing. -/
theorem OutcomeArms.kept {s t : State} (h : t.nmiArmed = s.nmiArmed) : OutcomeArms false s (.next t) :=
  .next (h.trans (Bool.or_false _).symm)

/-! ## The shared operations -/

@[simp] theorem State.operand8_nmiArmed (s : State) (op : Operand8) : (s.operand8 op).2.nmiArmed = s.nmiArmed :=
  (s.operand8_changes_operandParts op).2 .nmiArmed (by decide)

@[simp] theorem State.operand16_nmiArmed (s : State) (op : Operand16) : (s.operand16 op).2.nmiArmed = s.nmiArmed :=
  (s.operand16_changes_operandParts op).2 .nmiArmed (by decide)

@[simp] theorem State.readByte_nmiArmed (s : State) (a : Word) : (s.readByte a).2.nmiArmed = s.nmiArmed :=
  (s.readByte_changes a).2 .nmiArmed (by decide)

@[simp] theorem State.writeByte_nmiArmed (s : State) (a : Word) (v : Byte) : (s.writeByte a v).nmiArmed = s.nmiArmed :=
  (s.writeByte_changes a v).2 .nmiArmed (by decide)

@[simp] theorem State.writeWord_nmiArmed (s : State) (a v : Word) : (s.writeWord a v).nmiArmed = s.nmiArmed :=
  (s.writeWord_changes a v).2 .nmiArmed (by decide)

@[simp] theorem State.undefinedBit_nmiArmed (s : State) (fl : Flag) : (s.undefinedBit fl).2.nmiArmed = s.nmiArmed :=
  (s.undefinedBit_changes fl).2 .nmiArmed (by decide)

@[simp] theorem State.setAcc_nmiArmed (s : State) (acc : Acc) (v : Byte) : (s.setAcc acc v).nmiArmed = s.nmiArmed := by
  cases acc <;> rfl

@[simp] theorem State.pushRegisters_nmiArmed (s : State) (p : StackPtr) (pb : Byte) :
    (s.pushRegisters p pb).nmiArmed = s.nmiArmed :=
  (s.pushRegisters_changes p pb).2 .nmiArmed (by cases p <;> decide)

theorem State.subtract8_nmiArmed (s : State) (v m : Byte) (b : Bool) : (s.subtract8 v m b).2.nmiArmed = s.nmiArmed :=
  s.undefinedBit_nmiArmed .h

theorem State.subAcc_nmiArmed (s : State) (acc : Acc) (m : Byte) (b : Bool) : (s.subAcc acc m b).nmiArmed = s.nmiArmed :=
  (State.setAcc_nmiArmed _ acc _).trans (s.subtract8_nmiArmed _ m b)

theorem State.asrValue_nmiArmed (s : State) (m : Byte) : (s.asrValue m).2.nmiArmed = s.nmiArmed :=
  s.undefinedBit_nmiArmed .h

theorem State.aslValue_nmiArmed (s : State) (m : Byte) : (s.aslValue m).2.nmiArmed = s.nmiArmed :=
  s.undefinedBit_nmiArmed .h

theorem State.modifyAcc_nmiArmed (s : State) (acc : Acc) {f : State → Byte → Byte × State}
    (h : ∀ t v, (f t v).2.nmiArmed = t.nmiArmed) : (s.modifyAcc acc f).nmiArmed = s.nmiArmed :=
  (State.setAcc_nmiArmed _ acc _).trans (h _ _)

theorem State.modifyMemory_nmiArmed (s : State) (m : MemOperand) {f : State → Byte → Byte × State}
    (h : ∀ t v, (f t v).2.nmiArmed = t.nmiArmed) : (s.modifyMemory m f).nmiArmed = s.nmiArmed := by
  rw [State.modifyMemory_eq, State.writeByte_nmiArmed, h, State.readByte_nmiArmed, State.resolveEA_nmiArmed]

theorem State.branch_nmiArmed (s : State) (c : Cond) (rel : Word) : (s.branch c rel).nmiArmed = s.nmiArmed :=
  (s.branch_changes c rel).2 .nmiArmed (by decide)

theorem State.call_nmiArmed (s : State) (target : Word) : (s.call target).nmiArmed = s.nmiArmed :=
  (s.call_changes target).2 .nmiArmed (by decide)

theorem State.takeException_nmiArmed (s : State) (ev : Event) : (s.takeException ev).nmiArmed = s.nmiArmed :=
  (s.takeException_changes ev).2 .nmiArmed (by decide)

theorem State.pullRegisters_armsIf (s : State) (p : StackPtr) (pb : Byte) :
    armsIf (p.other == .s && pb.getLsbD 6) s (s.pullRegisters p pb) :=
  pulledLoadsS_eight p pb ▸ (s.pullRegisters_pulled p pb).arms

/-! ## Every instruction -/

/-- A transfer or an exchange of registers of one size loads S where it writes S. -/
theorem transfer_armsIf (r1 r2 : Reg) (s : State) :
    OutcomeArms (r1 == .r16 .s || r2 == .r16 .s) s (execExg r1 r2 s) ∧
      OutcomeArms (r2 == .r16 .s) s (execTfr r1 r2 s) := by
  match r1, r2 with
  | .r16 p, .r16 q =>
    have hsame (r : Reg16) : (Reg.r16 r == .r16 .s) = (r == .s) := by cases r <;> rfl
    rw [hsame p, hsame q]
    exact ⟨.next (armsIf.trans (s.setReg16_armsIf p _) (State.setReg16_armsIf _ q _) (s.setReg16_changes p _).nmiArming),
      .next (s.setReg16_armsIf q _)⟩
  | .r8 p, .r8 q =>
    have hq (t : State) (v : Byte) : (t.setReg8 q v).nmiArmed = t.nmiArmed := by cases q <;> rfl
    have hp (t : State) (v : Byte) : (t.setReg8 p v).nmiArmed = t.nmiArmed := by cases p <;> rfl
    exact ⟨.kept ((hq _ _).trans (hp s _)), .kept (hq s _)⟩
  | .r16 _, .r8 _ | .r8 _, .r16 _ => exact ⟨nofun, nofun⟩

/-- Every instruction but LDS arms NMI as a load of S if it is one, and leaves the arming alone if it is not. -/
theorem exec_armsIf (i : Instr) (s : State) (hlds : ∀ op, i ≠ .lds op) : OutcomeArms (loadsS i) s (exec i s) := by
  cases i with
  | lds op => exact absurd rfl (hlds op)
  | exg r1 r2 => exact (transfer_armsIf r1 r2 s).1
  | tfr r1 r2 => exact (transfer_armsIf r1 r2 s).2
  | leas ix => exact .next (s.leas_armsIf ix)
  | puls pb => exact .next (s.pullRegisters_armsIf .s pb)
  | pulu pb => exact .next (s.pullRegisters_armsIf .u pb)
  | lda op | ldb op | bita op | bitb op => exact .kept (s.operand8_nmiArmed op)
  | ldd op | ldx op | ldy op | ldu op | addd op | subd op | cmpd op | cmpx op | cmpy op | cmpu op | cmps op =>
    exact .kept (s.operand16_nmiArmed op)
  | sta m | stb m => exact .kept ((State.writeByte_nmiArmed _ _ _).trans (s.resolveEA_nmiArmed m))
  | std m | stx m | sty m | stu m | sts m =>
    exact .kept ((State.writeWord_nmiArmed _ _ _).trans (s.resolveEA_nmiArmed m))
  | pshs pb | pshu pb => exact .kept (s.pushRegisters_nmiArmed _ pb)
  | adda op | addb op | adca op | adcb op | anda op | andb op | eora op | eorb op | ora op | orb op =>
    exact .kept ((State.setAcc_nmiArmed _ _ _).trans (s.operand8_nmiArmed op))
  | suba op | subb op | sbca op | sbcb op =>
    exact .kept ((State.subAcc_nmiArmed _ _ _ _).trans (s.operand8_nmiArmed op))
  | cmpa op | cmpb op => exact .kept ((State.subtract8_nmiArmed _ _ _ _).trans (s.operand8_nmiArmed op))
  | daa => exact .kept (s.undefinedBit_nmiArmed .v)
  | abx | mul | sex | andcc v | orcc v | nop | tsta | tstb | sync => exact .kept rfl
  | asra | asrb => exact .kept (s.modifyAcc_nmiArmed _ State.asrValue_nmiArmed)
  | asla | aslb => exact .kept (s.modifyAcc_nmiArmed _ State.aslValue_nmiArmed)
  | nega | negb => exact .kept (s.modifyAcc_nmiArmed _ fun t v => t.subtract8_nmiArmed _ v _)
  | lsra | lsrb | rola | rolb | rora | rorb | clra | clrb | deca | decb | inca | incb | coma | comb =>
    exact .kept (s.modifyAcc_nmiArmed _ fun _ _ => rfl)
  | asr m => exact .kept (s.modifyMemory_nmiArmed m State.asrValue_nmiArmed)
  | asl m => exact .kept (s.modifyMemory_nmiArmed m State.aslValue_nmiArmed)
  | neg m => exact .kept (s.modifyMemory_nmiArmed m fun t v => t.subtract8_nmiArmed _ v _)
  | lsr m | rol m | ror m | clr m | dec m | inc m | com m => exact .kept (s.modifyMemory_nmiArmed m fun _ _ => rfl)
  | tst m => exact .kept ((State.readByte_nmiArmed _ _).trans (s.resolveEA_nmiArmed m))
  | bra r | brn r | bhi r | bls r | bcc r | bcs r | bne r | beq r | bvc r | bvs r | bpl r | bmi r | bge r | blt r
  | bgt r | ble r | lbra r | lbrn r | lbhi r | lbls r | lbcc r | lbcs r | lbne r | lbeq r | lbvc r | lbvs r | lbpl r
  | lbmi r | lbge r | lblt r | lbgt r | lble r => exact .kept (s.branch_nmiArmed _ _)
  | jmp m => exact .kept (s.resolveEA_nmiArmed m)
  | jsr m => exact .kept ((State.call_nmiArmed _ _).trans (s.resolveEA_nmiArmed m))
  | bsr r | lbsr r => exact .kept (s.call_nmiArmed _)
  | rts => exact .next (s.pullRegisters_armsIf .s 0x80#8)
  | leax ix | leay ix | leau ix => exact .kept (s.indexedEA_nmiArmed ix)
  | cwai v =>
    rw [exec_cwai]
    exact .kept (by simp [State.pushEntire_eq])
  | rti => exact .next (s.returnFromException_eq ▸ s.pullRegisters_armsIf .s _)
  | swi | swi2 | swi3 => exact .kept (s.takeException_nmiArmed _)

end Sys2Proof.Machine

namespace Sys2Proof

open Machine Claims

/-- Settles O17: NMI armed by an instruction other than LDS is armed by a load of S under `any_write_to_S`. -/
theorem onlyLoadsOfSArmNmi : Obligations.OnlyLoadsOfSArmNmi := by
  intro i s t hexec hdisarmed harmed
  by_cases hlds : ∃ op, i = .lds op
  · exact .inl hlds
  have harms := exec_armsIf i s (fun op h => hlds ⟨op, h⟩) t hexec
  rw [armsIf, hdisarmed, harmed, Bool.false_or, eq_comm, Bool.and_eq_true_iff, beq_iff_eq, loadsS_iff] at harms
  exact .inr harms.symm

end Sys2Proof
end
